-- ==== Sys2Proof/Word.lean ====
section
/-! DEFINITION. The two word types: a byte of the bus or the port, and a word wide enough for every
encoding of spec/opcode_table.json (the widest is 12 bits). No value of the block is signed (R8). -/

namespace Sys2Proof

/-- A data byte, an address byte, a group register: bit 7 is the most significant (R8). -/
abbrev Byte := BitVec 8

/-- An encoded word, its format's bits at the bottom and zeros above them. -/
abbrev CodeWord := BitVec 16

end Sys2Proof
end

