-- ==== Sys2Proof/Config.lean ====
section
/-! DEFINITION. What is fixed for a run (R7, R39): the device address and the two masks, and the two
parameters the spec leaves OPEN, MASTER_WAITS (R120) and PinInput (R201), which have no body, so that no
proof can lean on a value of theirs. -/

namespace Sys2Proof

/-- The two physical pin groups, named G1 and G2 (R88). -/
inductive PinGroup where
  | g1
  | g2
deriving DecidableEq, Repr

/-- DEVICE_ADDRESS, the one 7-bit bus address that selects the block (R7, R61). -/
def Config.deviceAddress : BitVec 7 := 0x42

/-- M1: the bits of group 1 that belong to the block, logical bits 0, 1, 2, 3, 7 (R7, R86). -/
def Config.maskG1 : Byte := 0x8F

/-- M2: the bits of group 2 that belong to the block, logical bits 4, 5, 6 at positions 0, 1, 2 (R7, R86). -/
def Config.maskG2 : Byte := 0x07

/-- MASTER_WAITS, the timely-master parameter the spec leaves open (R7, R120): log 2. -/
opaque Config.masterWaits : Bool

/-- The PinInput oracle: the level on each pin of a group at the sample with this index (R7, R201, R205,
premise LP_PINS of R275). Under no law: log 3. -/
opaque Config.pinInput : Nat → PinGroup → Byte

end Sys2Proof
end

