-- ==== Sys2Proof/Syntax.lean ====
section
/-! DEFINITION. The instructions: one constructor per row of spec/opcode_table.json, under the row's own name. -/

namespace Sys2Proof

/-- The 45 rows: what the address-match detector makes of an address byte, the data byte, the bus master's
events, the shift unit's and the port's commands, and the phases of the sequencer. -/
inductive Instr where
  -- address and data frames (R81 to R84)
  | addrWrite
  | addrRead
  | addrOther (addr7 : BitVec 7) (rw : Bool)
  | data (b : Byte)
  -- bus-master events (R94, R110)
  | mScl0
  | mScl1
  | mSda0
  | mSda1
  -- shift-unit commands (R92)
  | arm
  | beginAddr
  | sdaIn
  | sendAck
  | readAck
  | sendByte (value : Byte)
  | recvByte
  -- port commands (R93)
  | setInput
  | setOutput
  | writeAll (b : Byte)
  | readAll
  -- phases (R95)
  | idle
  | addrSdaIn
  | addrWaitSclLow
  | addrBegin
  | addrWait
  | addrAbort
  | addrCompare
  | addrReject
  | addrAck
  | dispatch
  | rdSetInput
  | rdSample
  | rdWaitAck
  | rdSend
  | rdWaitSend
  | rdMack
  | rdWaitMack
  | rdRearm
  | wrSetOutput
  | wrWaitAck
  | wrRecv
  | wrWaitRecv
  | wrSack
  | wrWaitSack
  | wrRearm
  | wrWrite
deriving DecidableEq, Repr

end Sys2Proof
end

