-- ==== Sys2Proof/WellFormed.lean ====
section
/-! DEFINITION. Which terms of Instr are instructions of the table. Widths are in the types; the one check
left is that ADDR_OTHER is the row of lowest priority, "every byte not matched by ADDR_WRITE or ADDR_READ". -/

namespace Sys2Proof

/-- The check, arm by arm: ADDR_OTHER does not carry the device address (R82, R83). -/
def Instr.wellFormed : Instr → Bool
  | .addrWrite => true
  | .addrRead => true
  | .addrOther addr7 _ => addr7 != Config.deviceAddress
  | .data _ => true
  | .mScl0 => true
  | .mScl1 => true
  | .mSda0 => true
  | .mSda1 => true
  | .arm => true
  | .beginAddr => true
  | .sdaIn => true
  | .sendAck => true
  | .readAck => true
  | .sendByte _ => true
  | .recvByte => true
  | .setInput => true
  | .setOutput => true
  | .writeAll _ => true
  | .readAll => true
  | .idle => true
  | .addrSdaIn => true
  | .addrWaitSclLow => true
  | .addrBegin => true
  | .addrWait => true
  | .addrAbort => true
  | .addrCompare => true
  | .addrReject => true
  | .addrAck => true
  | .dispatch => true
  | .rdSetInput => true
  | .rdSample => true
  | .rdWaitAck => true
  | .rdSend => true
  | .rdWaitSend => true
  | .rdMack => true
  | .rdWaitMack => true
  | .rdRearm => true
  | .wrSetOutput => true
  | .wrWaitAck => true
  | .wrRecv => true
  | .wrWaitRecv => true
  | .wrSack => true
  | .wrWaitSack => true
  | .wrRearm => true
  | .wrWrite => true

/-- The instruction is one the table lists. -/
abbrev WellFormed (i : Instr) : Prop := i.wellFormed = true

end Sys2Proof
end

