-- ==== Sys2Proof/Decode.lean ====
section
/-! DEFINITION. The decoder, from a format and a word to an instruction or a named error, and after it the
encoder, both written from spec/30_encoding.md. Which format a word has is not in the word: a byte after a start
is addr8, a byte of a Write is data8, a line change is ev2, a command word is scmd12 or pcmd12, the phase register
is phase5 (log 9). -/

namespace Sys2Proof

/-- The formats of spec/30_encoding.md: R81, R84, R94, R92, R93, R95. -/
inductive Format where
  | addr8
  | data8
  | ev2
  | scmd12
  | pcmd12
  | phase5
deriving DecidableEq, Repr

/-- How many bits a word of the format has. -/
def Format.width : Format → Nat
  | .addr8 => 8
  | .data8 => 8
  | .ev2 => 2
  | .scmd12 => 12
  | .pcmd12 => 12
  | .phase5 => 5

/-- Why a word is no instruction of its format. -/
inductive DecodeError where
  /-- a bit above the format's width is set -/
  | tooWide (f : Format) (w : CodeWord)
  /-- a code R92, R93 or R95 reserves (R90) -/
  | reservedCode (f : Format) (w : CodeWord)
  /-- an operand byte that must be 0x00 is not (R92, 93_implementation_defined.md section 1) -/
  | operandNotZero (f : Format) (w : CodeWord)
deriving DecidableEq, Repr

/-- The command code, bits [11:8] of a command word (R92, R93). -/
def commandCode (w : CodeWord) : BitVec 4 := w.extractLsb' 8 4

/-- The operand byte, bits [7:0] of a command word (R92, R93). -/
def commandOperand (w : CodeWord) : Byte := w.extractLsb' 0 8

/-- The 7-bit slave address, bits [7:1] of an address byte (R81). -/
def addressField (b : Byte) : BitVec 7 := b.extractLsb' 1 7

/-- The direction bit, bit [0] of an address byte (R81). -/
def rwField (b : Byte) : Bool := b.getLsbD 0

/-- The address byte (R82, R83): 0x84 and 0x85 select the block, every other byte selects nothing. -/
def decodeAddress (b : Byte) : Instr :=
  if addressField b = Config.deviceAddress then
    if rwField b then .addrRead else .addrWrite
  else .addrOther (addressField b) (rwField b)

/-- A master event, {line, level} (R94): all four codes are used. -/
def decodeEvent (c : BitVec 2) : Instr :=
  match c.toNat with
  | 0 => .mScl0
  | 1 => .mScl1
  | 2 => .mSda0
  | _ => .mSda1

/-- A command that takes no operand: its operand byte is 0x00 (R92). -/
def withoutOperand (f : Format) (w : CodeWord) (i : Instr) : Except DecodeError Instr :=
  if commandOperand w = 0 then .ok i else .error (.operandNotZero f w)

/-- A shift-unit command word (R92). -/
def decodeShiftCommand (w : CodeWord) : Except DecodeError Instr :=
  match (commandCode w).toNat with
  | 1 => withoutOperand .scmd12 w .arm
  | 2 => withoutOperand .scmd12 w .beginAddr
  | 3 => withoutOperand .scmd12 w .sdaIn
  | 4 => withoutOperand .scmd12 w .sendAck
  | 5 => withoutOperand .scmd12 w .readAck
  | 6 => .ok (.sendByte (commandOperand w))
  | 7 => withoutOperand .scmd12 w .recvByte
  | _ => .error (.reservedCode .scmd12 w)

/-- A port command word (R93). -/
def decodePortCommand (w : CodeWord) : Except DecodeError Instr :=
  match (commandCode w).toNat with
  | 8 => withoutOperand .pcmd12 w .setInput
  | 9 => withoutOperand .pcmd12 w .setOutput
  | 10 => .ok (.writeAll (commandOperand w))
  | 11 => withoutOperand .pcmd12 w .readAll
  | _ => .error (.reservedCode .pcmd12 w)

/-- A phase code (R95): 26 to 31 are reserved. -/
def decodePhaseCode (w : CodeWord) : Except DecodeError Instr :=
  match w.toNat with
  | 0 => .ok .idle
  | 1 => .ok .addrSdaIn
  | 2 => .ok .addrWaitSclLow
  | 3 => .ok .addrBegin
  | 4 => .ok .addrWait
  | 5 => .ok .addrAbort
  | 6 => .ok .addrCompare
  | 7 => .ok .addrReject
  | 8 => .ok .addrAck
  | 9 => .ok .dispatch
  | 10 => .ok .rdSetInput
  | 11 => .ok .rdSample
  | 12 => .ok .rdWaitAck
  | 13 => .ok .rdSend
  | 14 => .ok .rdWaitSend
  | 15 => .ok .rdMack
  | 16 => .ok .rdWaitMack
  | 17 => .ok .rdRearm
  | 18 => .ok .wrSetOutput
  | 19 => .ok .wrWaitAck
  | 20 => .ok .wrRecv
  | 21 => .ok .wrWaitRecv
  | 22 => .ok .wrSack
  | 23 => .ok .wrWaitSack
  | 24 => .ok .wrRearm
  | 25 => .ok .wrWrite
  | _ => .error (.reservedCode .phase5 w)

/-- The decoder: total, and every word it does not read is refused by name (R90). -/
def decode (f : Format) (w : CodeWord) : Except DecodeError Instr :=
  if w.toNat < 2 ^ f.width then
    match f with
    | .addr8 => .ok (decodeAddress (w.setWidth 8))
    | .data8 => .ok (.data (w.setWidth 8))
    | .ev2 => .ok (decodeEvent (w.setWidth 2))
    | .scmd12 => decodeShiftCommand w
    | .pcmd12 => decodePortCommand w
    | .phase5 => decodePhaseCode w
  else .error (.tooWide f w)

/-- The format of the table's row. -/
def formatOf : Instr → Format
  | .addrWrite => .addr8
  | .addrRead => .addr8
  | .addrOther _ _ => .addr8
  | .data _ => .data8
  | .mScl0 => .ev2
  | .mScl1 => .ev2
  | .mSda0 => .ev2
  | .mSda1 => .ev2
  | .arm => .scmd12
  | .beginAddr => .scmd12
  | .sdaIn => .scmd12
  | .sendAck => .scmd12
  | .readAck => .scmd12
  | .sendByte _ => .scmd12
  | .recvByte => .scmd12
  | .setInput => .pcmd12
  | .setOutput => .pcmd12
  | .writeAll _ => .pcmd12
  | .readAll => .pcmd12
  | .idle => .phase5
  | .addrSdaIn => .phase5
  | .addrWaitSclLow => .phase5
  | .addrBegin => .phase5
  | .addrWait => .phase5
  | .addrAbort => .phase5
  | .addrCompare => .phase5
  | .addrReject => .phase5
  | .addrAck => .phase5
  | .dispatch => .phase5
  | .rdSetInput => .phase5
  | .rdSample => .phase5
  | .rdWaitAck => .phase5
  | .rdSend => .phase5
  | .rdWaitSend => .phase5
  | .rdMack => .phase5
  | .rdWaitMack => .phase5
  | .rdRearm => .phase5
  | .wrSetOutput => .phase5
  | .wrWaitAck => .phase5
  | .wrRecv => .phase5
  | .wrWaitRecv => .phase5
  | .wrSack => .phase5
  | .wrWaitSack => .phase5
  | .wrRearm => .phase5
  | .wrWrite => .phase5

/-- The address byte {addr7, rw} (R81). -/
def addressWord (addr7 : BitVec 7) (rw : Bool) : CodeWord := (addr7 ++ BitVec.ofBool rw).setWidth 16

/-- The command word {code, operand} (R92). -/
def commandWord (code : BitVec 4) (operand : Byte) : CodeWord := (code ++ operand).setWidth 16

/-- The encoder: the word of the instruction in its format, from the tables of R83, R84, R92 to R95. -/
def encode : Instr → CodeWord
  | .addrWrite => addressWord Config.deviceAddress false
  | .addrRead => addressWord Config.deviceAddress true
  | .addrOther addr7 rw => addressWord addr7 rw
  | .data b => b.setWidth 16
  | .mScl0 => 0b00
  | .mScl1 => 0b01
  | .mSda0 => 0b10
  | .mSda1 => 0b11
  | .arm => commandWord 0x1 0x00
  | .beginAddr => commandWord 0x2 0x00
  | .sdaIn => commandWord 0x3 0x00
  | .sendAck => commandWord 0x4 0x00
  | .readAck => commandWord 0x5 0x00
  | .sendByte value => commandWord 0x6 value
  | .recvByte => commandWord 0x7 0x00
  | .setInput => commandWord 0x8 0x00
  | .setOutput => commandWord 0x9 0x00
  | .writeAll b => commandWord 0xA b
  | .readAll => commandWord 0xB 0x00
  | .idle => 0
  | .addrSdaIn => 1
  | .addrWaitSclLow => 2
  | .addrBegin => 3
  | .addrWait => 4
  | .addrAbort => 5
  | .addrCompare => 6
  | .addrReject => 7
  | .addrAck => 8
  | .dispatch => 9
  | .rdSetInput => 10
  | .rdSample => 11
  | .rdWaitAck => 12
  | .rdSend => 13
  | .rdWaitSend => 14
  | .rdMack => 15
  | .rdWaitMack => 16
  | .rdRearm => 17
  | .wrSetOutput => 18
  | .wrWaitAck => 19
  | .wrRecv => 20
  | .wrWaitRecv => 21
  | .wrSack => 22
  | .wrWaitSack => 23
  | .wrRearm => 24
  | .wrWrite => 25

/-- The format and the word of a row of the table of which only the width and the bits are given. The formats of
one byte overlap, so the choice at 8 bits is the model's (log 9): a phase code where there is one, else an address
byte. A width of no format, or bits beyond 16, gives a word that is refused (code 0 is reserved in scmd12). -/
def tableWord (nbits w : Nat) : Format × CodeWord :=
  if 2 ^ 16 ≤ w then (.scmd12, 0)
  else
    let word : CodeWord := BitVec.ofNat 16 w
    match nbits with
    | 2 => (.ev2, word)
    | 5 => (.phase5, word)
    | 8 => if w < 26 then (.phase5, word) else (.addr8, word)
    | 12 | 16 => if 8 ≤ (commandCode word).toNat then (.pcmd12, word) else (.scmd12, word)
    | _ => (.scmd12, 0)

/-- What the decoder reads from a row of the table whose bits are w, numbered as the table numbers them. -/
def decodeTableWord (nbits w : Nat) : Option Instr :=
  match decode (tableWord nbits w).1 (tableWord nbits w).2 with
  | .ok i => some i
  | .error _ => none

end Sys2Proof
end

