-- ==== Sys2Proof/Machine/State.lean ====
section
/-! DEFINITION. The state of the block and of its bus as plain data (spec/10_state.md), the reasons a step can
stop, and the state after reset. There is no memory (R60). The last three fields are the model's own. -/

namespace Sys2Proof.Machine

/-- The sequencer's control state, the program-counter analogue (R21, R95). -/
inductive Phase where
  | idle
  | addrSdaIn
  | addrWaitSclLow
  | addrBegin
  | addrWait
  | addrAbort
  | addrCompare
  | addrReject
  | addrAck
  | dispatch
  | rdSetInput
  | rdSample
  | rdWaitAck
  | rdSend
  | rdWaitSend
  | rdMack
  | rdWaitMack
  | rdRearm
  | wrSetOutput
  | wrWaitAck
  | wrRecv
  | wrWaitRecv
  | wrSack
  | wrWaitSack
  | wrRearm
  | wrWrite
deriving DecidableEq, Repr

/-- The captured direction: the bit 1 is Read, 0 is Write (R23, R82). -/
inductive Direction where
  | write
  | read
deriving DecidableEq, Repr

/-- The shift unit's configuration; code 3 of the 2-bit field is never written (R26, R40). -/
inductive SuMode where
  | watch
  | rx
  | tx
deriving DecidableEq, Repr

/-- The configured bit count; the 4-bit field's other values are never written (R27, R40). -/
inductive SuLen where
  | one
  | eight
deriving DecidableEq, Repr

/-- PortMode (R33). -/
inductive PortMode where
  | input
  | output
deriving DecidableEq, Repr

/-- The four events of the bus master (R94, R110). -/
inductive MasterEvent where
  | scl0
  | scl1
  | sda0
  | sda1
deriving DecidableEq, Repr

/-- What an outsider may ask for and the spec has a model refuse (93_implementation_defined.md section 3). -/
inductive OutsideRequest where
  /-- reset the block during the run (R273) -/
  | resetDuringRun
  /-- an event of a second bus master (R256) -/
  | secondMaster
  /-- a second agent drives the port or the shift unit (R75, R256) -/
  | secondAgent
deriving DecidableEq, Repr

/-- One entry of the interleaving: whose step comes next (log 1). -/
inductive Turn where
  /-- the controller takes one step -/
  | controller
  /-- the script token CTL: the controller takes steps until it is quiescent (R97) -/
  | settle
  /-- an encoded word reaches the block: in ev2 the bus master's event (R94), in another format a word handed to
  the decoder and run (log 8) -/
  | word (f : Format) (w : CodeWord)
  /-- a request from outside the hardware -/
  | outside (r : OutsideRequest)
deriving DecidableEq, Repr

/-- The block raises no exception and no step can fault (R240): there is no fault reason, so no step of the model
ends in one (log 16). -/
inductive Fault where
deriving DecidableEq, Repr

/-- Why a step has no meaning. Every one is safe: the model stops. -/
inductive Refusal where
  /-- an instruction that has no meaning yet, by its mnemonic: raised by an arm of exec only; safe -/
  | notModelled (mnemonic : String)
  /-- a master event whose precondition fails: the line already has the level (R110); raised by the four
  event meanings; safe (log 12) -/
  | eventNotEnabled (e : MasterEvent)
  /-- a word that is no instruction of its format (R90); raised by the fetch; safe -/
  | undecodable (e : DecodeError)
  /-- WRITE_ALL offered as a free-standing operation while the port is in Input mode (R207); raised by the fetch
  of a handed word; safe (log 13) -/
  | writeAllInInputMode
  /-- su_cnt above 8, a value R28 does not have and a model refuses (93_implementation_defined.md section 1): raised
  by the fetch in a state that holds one, and by M_SCL0 where counting would reach one; safe (log 17) -/
  | counterAboveEight
  /-- a request outside the hardware (R273, R256, R75); raised by the fetch; safe (log 14) -/
  | outsideHardware (r : OutsideRequest)
  /-- a script token whose precondition fails (R98); raised when a script is loaded; safe (log 19) -/
  | scriptToken (position : Nat)
deriving DecidableEq, Repr

/-- All the state the spec gives the block and its bus, then the model's own three fields. -/
structure State where
  /-- R21 -/
  phase : Phase
  /-- R23 -/
  dir : Direction
  /-- R24 -/
  xfer : Byte
  /-- R25 -/
  sr : Byte
  /-- R26 -/
  suMode : SuMode
  /-- R27 -/
  suLen : SuLen
  /-- R28: 0 to 8; a step from a state with another value is refused (log 17) -/
  suCnt : BitVec 4
  /-- R29 -/
  fStart : Bool
  /-- R30 -/
  fOvf : Bool
  /-- R31 -/
  fStop : Bool
  /-- R32: true is released -/
  sdaS : Bool
  /-- R33 -/
  portMode : PortMode
  /-- R34: a set bit is a driven pin -/
  g1Dir : Byte
  /-- R34 -/
  g1Out : Byte
  /-- R35 -/
  g2Dir : Byte
  /-- R35 -/
  g2Out : Byte
  /-- R36 -/
  ind : Bool
  /-- R38: the SCL level -/
  scl : Bool
  /-- R38: the master's SDA drive, true is released -/
  sdaM : Bool
  /-- the model's own: the index of the next PinInput draw (LP_PINS of R275, log 3) -/
  samples : Nat
  /-- the model's own: the byte returned by the last READ_ALL that was handed in as a word (log 4) -/
  result : Byte
  /-- the model's own: the interleaving still to come (log 1) -/
  agenda : List Turn
deriving DecidableEq, Repr

/-- The state after reset for any draws of the four fields that R42 leaves open, with LP_BUS_IDLE and
LP_NO_EVENT of R275. -/
def State.resetWith (dir : Direction) (xfer sr : Byte) (suLen : SuLen) : State where
  phase := .idle
  dir := dir
  xfer := xfer
  sr := sr
  suMode := .watch
  suLen := suLen
  suCnt := 0
  fStart := false
  fOvf := false
  fStop := false
  sdaS := true
  portMode := .input
  g1Dir := 0
  g1Out := 0
  g2Dir := 0
  g2Out := 0
  ind := false
  scl := true
  sdaM := true
  samples := 0
  result := 0
  agenda := []

/-- The state after reset (R42, R270). The four draws have the values log 5 names. -/
def State.reset : State := State.resetWith .write 0x00 0x00 .eight

end Sys2Proof.Machine
end

