-- ==== Sys2Proof/Machine/Operands.lean ====
section
/-! DEFINITION. Bit fields and small conversions: the pin map (R86), what a pin drives and what a read sees of it
(R200, R201), the serial shift of one bit (R116), the codes of the phase register (R95) and of the bit count. -/

namespace Sys2Proof.Machine

/-- The count the configured length stands for (R27). -/
def suLenVal : SuLen → BitVec 4
  | .one => 1
  | .eight => 8

/-- The direction a direction bit stands for: 1 is Read (R82). -/
def directionOfBit (rw : Bool) : Direction := if rw then .read else .write

/-- The first bit on the wire and the next bit a transmitter presents: bit 7 (R63, R117). -/
def topBit (b : Byte) : Bool := b.getLsbD 7

/-- {sr[6:0], bit}: the sampled bit enters at bit 0 (R116). -/
def shiftIn (sr : Byte) (bit : Bool) : Byte := sr.extractLsb' 0 7 ++ BitVec.ofBool bit

/-- The group-1 image of a logical byte (R86). -/
def toG1 (b : Byte) : Byte := b &&& Config.maskG1

/-- The group-2 image of a logical byte (R86). -/
def toG2 (b : Byte) : Byte := (b >>> 4) &&& Config.maskG2

/-- The logical byte of two group levels; the bits outside the masks are dropped (R86). -/
def fromG (p1 p2 : Byte) : Byte := (p1 &&& Config.maskG1) ||| ((p2 &&& Config.maskG2) <<< 4)

/-- Writes the bits under the mask and keeps the others (R204, R208). -/
def writeUnder (mask old new : Byte) : Byte := (old &&& ~~~mask) ||| (new &&& mask)

/-- The levels a read sees on a group: the latch of an output pin, the sample of an input pin (R201). -/
def groupLevel (dir out sample : Byte) : Byte := (dir &&& out) ||| (~~~dir &&& sample)

/-- What a pin of a group is driven to: its latch bit, or high impedance (R200). -/
def pinDrive (dir out : Byte) (i : Fin 8) : Option Bool :=
  if dir.getLsbD i then some (out.getLsbD i) else none

/-- The mask of a group (R7). -/
def groupMask : PinGroup → Byte
  | .g1 => Config.maskG1
  | .g2 => Config.maskG2

/-- The drive the block presents on a pin of a group, for the pins that belong to the block (R200). -/
def drive (s : State) (g : PinGroup) (i : Fin 8) : Option Bool :=
  if (groupMask g).getLsbD i then
    match g with
    | .g1 => pinDrive s.g1Dir s.g1Out i
    | .g2 => pinDrive s.g2Dir s.g2Out i
  else none

/-- The code in the phase register (R95). -/
def phaseCode : Phase → CodeWord
  | .idle => 0
  | .addrSdaIn => 1
  | .addrWaitSclLow => 2
  | .addrBegin => 3
  | .addrWait => 4
  | .addrAbort => 5
  | .addrCompare => 6
  | .addrReject => 7
  | .addrAck => 8
  | .dispatch => 9
  | .rdSetInput => 10
  | .rdSample => 11
  | .rdWaitAck => 12
  | .rdSend => 13
  | .rdWaitSend => 14
  | .rdMack => 15
  | .rdWaitMack => 16
  | .rdRearm => 17
  | .wrSetOutput => 18
  | .wrWaitAck => 19
  | .wrRecv => 20
  | .wrWaitRecv => 21
  | .wrSack => 22
  | .wrWaitSack => 23
  | .wrRearm => 24
  | .wrWrite => 25

/-- The row of the table a phase is (R170: a controller step performs the rule of its phase). -/
def phaseInstr : Phase → Instr
  | .idle => .idle
  | .addrSdaIn => .addrSdaIn
  | .addrWaitSclLow => .addrWaitSclLow
  | .addrBegin => .addrBegin
  | .addrWait => .addrWait
  | .addrAbort => .addrAbort
  | .addrCompare => .addrCompare
  | .addrReject => .addrReject
  | .addrAck => .addrAck
  | .dispatch => .dispatch
  | .rdSetInput => .rdSetInput
  | .rdSample => .rdSample
  | .rdWaitAck => .rdWaitAck
  | .rdSend => .rdSend
  | .rdWaitSend => .rdWaitSend
  | .rdMack => .rdMack
  | .rdWaitMack => .rdWaitMack
  | .rdRearm => .rdRearm
  | .wrSetOutput => .wrSetOutput
  | .wrWaitAck => .wrWaitAck
  | .wrRecv => .wrRecv
  | .wrWaitRecv => .wrWaitRecv
  | .wrSack => .wrSack
  | .wrWaitSack => .wrWaitSack
  | .wrRearm => .wrRearm
  | .wrWrite => .wrWrite

/-- The 2-bit code of an event, {line, level} (R94). -/
def eventCode : MasterEvent → CodeWord
  | .scl0 => 0b00
  | .scl1 => 0b01
  | .sda0 => 0b10
  | .sda1 => 0b11

end Sys2Proof.Machine
end

