-- ==== Sys2Proof/Machine/Flags.lean ====
section
/-! DEFINITION. The SDA level and the start and stop detectors. -/

namespace Sys2Proof.Machine

/-- The level on the SDA line, the wired-AND of both drives (R13). -/
def sda (s : State) : Bool := s.sdaM && s.sdaS

/-- SCL high before and after a step, SDA falling: a start condition (R114). -/
def startSeen (s t : State) : Bool := s.scl && t.scl && sda s && !sda t

/-- SCL high before and after a step, SDA rising: a stop condition (R114). -/
def stopSeen (s t : State) : Bool := s.scl && t.scl && !sda s && sda t

/-- The detectors after a step from s whose own writes gave t: a set wins over the step's clear (R114, R115). -/
def detect (s t : State) : State :=
  { t with fStart := t.fStart || startSeen s t, fStop := t.fStop || stopSeen s t }

end Sys2Proof.Machine
end

