-- ==== Sys2Proof/Machine/Ops.lean ====
section
/-! DEFINITION. The operations the meanings share: one step's end, the shift unit's edge reactions and commands,
the port's operations, the waits, the early return, and when the controller is quiescent. -/

namespace Sys2Proof.Machine

/-- How every step ends: its writes together, then the detectors (R10, R114). -/
def commit (s t : State) : Host.Outcome State Fault Refusal := .next (detect s t)

/-- `goto P` (R12). -/
def gotoPhase (p : Phase) (s : State) : State := { s with phase := p }

/-! ### The shift unit's edges -/

/-- Edges shift and count: the unit is in RX or TX and has not overflowed (R116, R117). -/
def shifting (s : State) : Bool :=
  match s.suMode with
  | .watch => false
  | .rx => !s.fOvf
  | .tx => !s.fOvf

/-- `edge_rise()`: sample SDA into bit 0 (R116). -/
def edgeRise (s : State) : State :=
  if shifting s then { s with sr := shiftIn s.sr (sda s) } else s

/-- `edge_fall()`: count, raise overflow at the configured count, else present the next transmitted bit (R117).
The sum is in 4 bits; a sum above 8 is refused before it is made (`countRefused`). -/
def edgeFall (s : State) : State :=
  if shifting s then
    if s.suCnt + 1 = suLenVal s.suLen then { s with suCnt := s.suCnt + 1, fOvf := true }
    else if s.suMode = .tx then { s with suCnt := s.suCnt + 1, sdaS := topBit s.sr }
    else { s with suCnt := s.suCnt + 1 }
  else s

/-- The falling edge would count above 8, a value su_cnt does not have (R28, 93_implementation_defined.md section 1,
log 17). -/
def countRefused (s : State) : Bool := shifting s && decide (8 ≤ s.suCnt)

/-- The master's SCL level changes. -/
def setScl (v : Bool) (s : State) : State := { s with scl := v }

/-- The master's SDA drive changes (R113). -/
def setSdaM (v : Bool) (s : State) : State := { s with sdaM := v }

/-! ### Shift-unit commands (R140) -/

/-- ARM (R141). -/
def arm (s : State) : State :=
  { s with suMode := .watch, suCnt := 0, fStart := false, fOvf := false, fStop := false, sdaS := true }

/-- BEGIN_ADDR (R142). -/
def beginAddr (s : State) : State :=
  { s with suMode := .rx, suLen := .eight, suCnt := 0, fStart := false, fOvf := false, fStop := false, sdaS := true }

/-- SDA_IN (R143). -/
def sdaIn (s : State) : State := { s with sdaS := true }

/-- SEND_ACK (R144): the acknowledge is SDA low. -/
def sendAck (s : State) : State :=
  { s with suMode := .tx, suLen := .one, suCnt := 0, fOvf := false, sr := 0x00, sdaS := false }

/-- READ_ACK (R145). -/
def readAck (s : State) : State :=
  { s with suMode := .rx, suLen := .one, suCnt := 0, fOvf := false, sdaS := true }

/-- SEND_BYTE (R146): bit 7 is presented at once. -/
def sendByte (v : Byte) (s : State) : State :=
  { s with suMode := .tx, suLen := .eight, suCnt := 0, fOvf := false, sr := v, sdaS := topBit v }

/-- RECV_BYTE (R147). -/
def recvByte (s : State) : State :=
  { s with suMode := .rx, suLen := .eight, suCnt := 0, fOvf := false, sdaS := true }

/-- `wait_ovf(next)` (R148): stay until the shift is complete. -/
def waitOvf (next : Phase) (s : State) : State := if s.fOvf then gotoPhase next s else s

/-- `wait_scl_low(next)` (R149): stay while SCL is high. -/
def waitSclLow (next : Phase) (s : State) : State := if s.scl then s else gotoPhase next s

/-- ARM; goto IDLE: how a transaction ends or is given up, the block's only "trap entry" (R251). -/
def rearmToIdle (s : State) : State := gotoPhase .idle (arm s)

/-! ### The port -/

/-- SET_INPUT (R202): mapped pins high-impedance, latch cleared, indicator off. -/
def setInput (s : State) : State :=
  { s with
    g1Dir := s.g1Dir &&& ~~~Config.maskG1
    g2Dir := s.g2Dir &&& ~~~Config.maskG2
    g1Out := s.g1Out &&& ~~~Config.maskG1
    g2Out := s.g2Out &&& ~~~Config.maskG2
    ind := false
    portMode := .input }

/-- SET_OUTPUT (R203): mapped pins driven, latch unchanged, indicator on. -/
def setOutput (s : State) : State :=
  { s with
    g1Dir := s.g1Dir ||| Config.maskG1
    g2Dir := s.g2Dir ||| Config.maskG2
    ind := true
    portMode := .output }

/-- WRITE_ALL (R204): both latches under their masks, whatever the port mode is. -/
def writeAll (b : Byte) (s : State) : State :=
  { s with
    g1Out := writeUnder Config.maskG1 s.g1Out (toG1 b)
    g2Out := writeUnder Config.maskG2 s.g2Out (toG2 b) }

/-- The byte READ_ALL returns when the pins of the two groups have these levels (R201, R205). -/
def readAllFrom (p1 p2 : Byte) (s : State) : Byte :=
  fromG (groupLevel s.g1Dir s.g1Out p1) (groupLevel s.g2Dir s.g2Out p2)

/-- The byte READ_ALL returns at this step: one PinInput draw per group (R205). -/
def readAllValue (s : State) : Byte :=
  readAllFrom (Config.pinInput s.samples .g1) (Config.pinInput s.samples .g2) s

/-- The sample is taken: the next one is a draw of its own (LP_PINS of R275). -/
def drawSample (s : State) : State := { s with samples := s.samples + 1 }

/-- READ_ALL for a caller that keeps the byte in xfer (R223). -/
def sampleToXfer (s : State) : State := { drawSample s with xfer := readAllValue s }

/-- READ_ALL for a command word handed in, whose caller is outside: the byte it returns is shown in the model's
own field `result` (R205, log 4). -/
def sampleToResult (s : State) : State := { drawSample s with result := readAllValue s }

/-! ### Frames -/

/-- The address-match detector on a received address and direction bit (R177): a match captures the direction and
goes on to the acknowledge, a mismatch is rejected. -/
def compareAddress (addr7 : BitVec 7) (rw : Bool) (s : State) : State :=
  if addr7 = Config.deviceAddress then { s with dir := directionOfBit rw, phase := .addrAck }
  else gotoPhase .addrReject s

/-- A Write's data byte is complete: it is kept before SEND_ACK overwrites the shift register (R188). -/
def captureByte (b : Byte) (s : State) : State := { s with xfer := b, phase := .wrSack }

/-- A Read's data byte goes out: SEND_BYTE, then the wait for its eight bits (R181). -/
def presentByte (b : Byte) (s : State) : State := gotoPhase .rdWaitSend (sendByte b s)

/-- Where DISPATCH goes (R221): the mode is switched only when it differs. -/
def dispatchTarget : Direction → PortMode → Phase
  | .read, .output => .rdSetInput
  | .read, .input => .rdSample
  | .write, .input => .wrSetOutput
  | .write, .output => .wrWaitAck

/-! ### Quiescence -/

/-- The controller's next step would be `stay`: a wait phase whose condition is false (R120). -/
def quiescent (s : State) : Bool :=
  match s.phase with
  | .idle => !s.fStart
  | .addrSdaIn => false
  | .addrWaitSclLow => s.scl
  | .addrBegin => false
  | .addrWait => !s.fStop && !s.fOvf
  | .addrAbort => false
  | .addrCompare => false
  | .addrReject => false
  | .addrAck => false
  | .dispatch => false
  | .rdSetInput => false
  | .rdSample => false
  | .rdWaitAck => !s.fOvf
  | .rdSend => false
  | .rdWaitSend => !s.fOvf
  | .rdMack => false
  | .rdWaitMack => !s.fOvf
  | .rdRearm => false
  | .wrSetOutput => false
  | .wrWaitAck => !s.fOvf
  | .wrRecv => false
  | .wrWaitRecv => !s.fOvf
  | .wrSack => false
  | .wrWaitSack => !s.fOvf
  | .wrRearm => false
  | .wrWrite => false

end Sys2Proof.Machine
end

