-- ==== Sys2Proof/Machine/Address.lean ====
section
/-! DEFINITION. The rows of the bus frames (spec/30_encoding.md R81 to R84): what the block does with an address
byte the moment the address-match detector compares it, and with a data byte the moment it is handed over (log 10,
log 11). -/

namespace Sys2Proof.Machine

/-- ADDR_WRITE, the byte 0x84 (R82, R83): address 0x42, direction Write. -/
def execAddrWrite (s : State) : Host.Outcome State Fault Refusal :=
  commit s (compareAddress Config.deviceAddress false s)

/-- ADDR_READ, the byte 0x85 (R82, R83): address 0x42, direction Read. -/
def execAddrRead (s : State) : Host.Outcome State Fault Refusal :=
  commit s (compareAddress Config.deviceAddress true s)

/-- ADDR_OTHER, any other byte (R82, R89): it selects nothing. -/
def execAddrOther (addr7 : BitVec 7) (rw : Bool) (s : State) : Host.Outcome State Fault Refusal :=
  commit s (compareAddress addr7 rw s)

/-- DATA (R84): on a Write the received byte is kept for the pins (R188), on a Read the byte is sent (R181). -/
def execData (b : Byte) (s : State) : Host.Outcome State Fault Refusal :=
  match s.dir with
  | .write => commit s (captureByte b s)
  | .read => commit s (presentByte b s)

end Sys2Proof.Machine
end

