-- ==== Sys2Proof/Machine/Master.lean ====
section
/-! DEFINITION. The bus master's four events (spec/40_bus_and_shift_unit.md R110 to R117). Each needs its line at the
other level; whether the master may move at all (R120) is settled where its turn is fetched (Machine/Fetch.lean). -/

namespace Sys2Proof.Machine

/-- M_SCL0, the falling edge (R112); a count above 8 is refused (log 17). -/
def execMScl0 (s : State) : Host.Outcome State Fault Refusal :=
  if s.scl then
    if countRefused s then .refused .counterAboveEight else commit s (edgeFall (setScl false s))
  else .refused (.eventNotEnabled .scl0)

/-- M_SCL1, the rising edge (R111). -/
def execMScl1 (s : State) : Host.Outcome State Fault Refusal :=
  if s.scl then .refused (.eventNotEnabled .scl1) else commit s (edgeRise (setScl true s))

/-- M_SDA0: the master pulls SDA low (R113). -/
def execMSda0 (s : State) : Host.Outcome State Fault Refusal :=
  if s.sdaM then commit s (setSdaM false s) else .refused (.eventNotEnabled .sda0)

/-- M_SDA1: the master releases SDA (R113). -/
def execMSda1 (s : State) : Host.Outcome State Fault Refusal :=
  if s.sdaM then .refused (.eventNotEnabled .sda1) else commit s (setSdaM true s)

end Sys2Proof.Machine
end

