-- ==== Sys2Proof/Machine/Poller.lean ====
section
/-! DEFINITION. The Poller's phases (spec/44_poller.md): dispatch, lazy mode switching, the port's sample and write. -/

namespace Sys2Proof.Machine

/-- DISPATCH (R221). -/
def execDispatch (s : State) : Host.Outcome State Fault Refusal :=
  commit s (gotoPhase (dispatchTarget s.dir s.portMode) s)

/-- RD_SET_INPUT (R222). -/
def execRdSetInput (s : State) : Host.Outcome State Fault Refusal := commit s (gotoPhase .rdSample (setInput s))

/-- RD_SAMPLE (R223). -/
def execRdSample (s : State) : Host.Outcome State Fault Refusal := commit s (gotoPhase .rdWaitAck (sampleToXfer s))

/-- WR_SET_OUTPUT (R224). -/
def execWrSetOutput (s : State) : Host.Outcome State Fault Refusal := commit s (gotoPhase .wrWaitAck (setOutput s))

/-- WR_WRITE (R225). -/
def execWrWrite (s : State) : Host.Outcome State Fault Refusal := commit s (gotoPhase .idle (writeAll s.xfer s))

end Sys2Proof.Machine
end

