-- ==== Sys2Proof/Machine/PortCommands.lean ====
section
/-! DEFINITION. The port's four commands as instructions of their own (spec/43_gpio_port.md R202 to R205). -/

namespace Sys2Proof.Machine

/-- SET_INPUT (R202). -/
def execSetInput (s : State) : Host.Outcome State Fault Refusal := commit s (setInput s)

/-- SET_OUTPUT (R203). -/
def execSetOutput (s : State) : Host.Outcome State Fault Refusal := commit s (setOutput s)

/-- WRITE_ALL (R204): the latch is written whatever the mode is; that it is offered in Input mode is refused where
the word is fetched (R207, log 13). -/
def execWriteAll (b : Byte) (s : State) : Host.Outcome State Fault Refusal := commit s (writeAll b s)

/-- READ_ALL (R205): no field of the block is written; the byte returned stands in `result` (log 4). -/
def execReadAll (s : State) : Host.Outcome State Fault Refusal := commit s (sampleToResult s)

end Sys2Proof.Machine
end

