-- ==== Sys2Proof/Machine/Sequencer.lean ====
section
/-! DEFINITION. The sequencer's phases (spec/42_sequencer.md): the address phase, the Read exchange and the Write
exchange, one definition per phase. -/

namespace Sys2Proof.Machine

/-! ### Idle and the address phase -/

/-- IDLE (R171): poll the start flag. -/
def execIdle (s : State) : Host.Outcome State Fault Refusal :=
  commit s (if s.fStart then gotoPhase .addrSdaIn s else s)

/-- ADDR_SDA_IN (R172). -/
def execAddrSdaIn (s : State) : Host.Outcome State Fault Refusal :=
  commit s (gotoPhase .addrWaitSclLow (sdaIn s))

/-- ADDR_WAIT_SCL_LOW (R173). -/
def execAddrWaitSclLow (s : State) : Host.Outcome State Fault Refusal :=
  commit s (waitSclLow .addrBegin s)

/-- ADDR_BEGIN (R174). -/
def execAddrBegin (s : State) : Host.Outcome State Fault Refusal :=
  commit s (gotoPhase .addrWait (beginAddr s))

/-- ADDR_WAIT (R175): a stop wins over a complete byte. -/
def execAddrWait (s : State) : Host.Outcome State Fault Refusal :=
  commit s (if s.fStop then gotoPhase .addrAbort s else waitOvf .addrCompare s)

/-- ADDR_ABORT (R176): the early return on a stop (R251). -/
def execAddrAbort (s : State) : Host.Outcome State Fault Refusal := commit s (rearmToIdle s)

/-- ADDR_COMPARE (R177): the address-match detector reads the shifted byte. -/
def execAddrCompare (s : State) : Host.Outcome State Fault Refusal :=
  commit s (compareAddress (addressField s.sr) (rwField s.sr) s)

/-- ADDR_REJECT (R178): the early return on a mismatch (R251). -/
def execAddrReject (s : State) : Host.Outcome State Fault Refusal := commit s (rearmToIdle s)

/-- ADDR_ACK (R179): the acknowledge is configured here and waited for later. -/
def execAddrAck (s : State) : Host.Outcome State Fault Refusal := commit s (gotoPhase .dispatch (sendAck s))

/-! ### The Read exchange -/

/-- RD_WAIT_ACK (R180). -/
def execRdWaitAck (s : State) : Host.Outcome State Fault Refusal := commit s (waitOvf .rdSend s)

/-- RD_SEND (R181). -/
def execRdSend (s : State) : Host.Outcome State Fault Refusal := commit s (presentByte s.xfer s)

/-- RD_WAIT_SEND (R182). -/
def execRdWaitSend (s : State) : Host.Outcome State Fault Refusal := commit s (waitOvf .rdMack s)

/-- RD_MACK (R183). -/
def execRdMack (s : State) : Host.Outcome State Fault Refusal := commit s (gotoPhase .rdWaitMack (readAck s))

/-- RD_WAIT_MACK (R184): the master's acknowledge is not read. -/
def execRdWaitMack (s : State) : Host.Outcome State Fault Refusal := commit s (waitOvf .rdRearm s)

/-- RD_REARM (R185). -/
def execRdRearm (s : State) : Host.Outcome State Fault Refusal := commit s (rearmToIdle s)

/-! ### The Write exchange -/

/-- WR_WAIT_ACK (R186). -/
def execWrWaitAck (s : State) : Host.Outcome State Fault Refusal := commit s (waitOvf .wrRecv s)

/-- WR_RECV (R187). -/
def execWrRecv (s : State) : Host.Outcome State Fault Refusal := commit s (gotoPhase .wrWaitRecv (recvByte s))

/-- WR_WAIT_RECV (R188): the copy comes before SEND_ACK overwrites the shift register. -/
def execWrWaitRecv (s : State) : Host.Outcome State Fault Refusal :=
  commit s (if s.fOvf then captureByte s.sr s else s)

/-- WR_SACK (R189). -/
def execWrSack (s : State) : Host.Outcome State Fault Refusal := commit s (gotoPhase .wrWaitSack (sendAck s))

/-- WR_WAIT_SACK (R190). -/
def execWrWaitSack (s : State) : Host.Outcome State Fault Refusal := commit s (waitOvf .wrRearm s)

/-- WR_REARM (R191). -/
def execWrRearm (s : State) : Host.Outcome State Fault Refusal := commit s (gotoPhase .wrWrite (arm s))

end Sys2Proof.Machine
end

