-- ==== Sys2Proof/Machine/ShiftCommands.lean ====
section
/-! DEFINITION. The shift unit's seven commands as instructions of their own (spec/41_shift_commands.md R140 to R147),
the detectors running after each. The sequencer's phases issue the same operations. -/

namespace Sys2Proof.Machine

/-- ARM (R141). -/
def execArm (s : State) : Host.Outcome State Fault Refusal := commit s (arm s)

/-- BEGIN_ADDR (R142). -/
def execBeginAddr (s : State) : Host.Outcome State Fault Refusal := commit s (beginAddr s)

/-- SDA_IN (R143). -/
def execSdaIn (s : State) : Host.Outcome State Fault Refusal := commit s (sdaIn s)

/-- SEND_ACK (R144). -/
def execSendAck (s : State) : Host.Outcome State Fault Refusal := commit s (sendAck s)

/-- READ_ACK (R145). -/
def execReadAck (s : State) : Host.Outcome State Fault Refusal := commit s (readAck s)

/-- SEND_BYTE (R146). -/
def execSendByte (value : Byte) (s : State) : Host.Outcome State Fault Refusal := commit s (sendByte value s)

/-- RECV_BYTE (R147). -/
def execRecvByte (s : State) : Host.Outcome State Fault Refusal := commit s (recvByte s)

end Sys2Proof.Machine
end

