-- ==== Sys2Proof/Machine/Dispatch.lean ====
section
/-! DEFINITION. One arm per instruction: its meaning, called directly. -/

namespace Sys2Proof.Machine

def exec (i : Instr) (s : State) : Host.Outcome State Fault Refusal :=
  match i with
  | .addrWrite => Sys2Proof.Machine.execAddrWrite s
  | .addrRead => Sys2Proof.Machine.execAddrRead s
  | .addrOther addr7 rw => Sys2Proof.Machine.execAddrOther addr7 rw s
  | .data b => Sys2Proof.Machine.execData b s
  | .mScl0 => Sys2Proof.Machine.execMScl0 s
  | .mScl1 => Sys2Proof.Machine.execMScl1 s
  | .mSda0 => Sys2Proof.Machine.execMSda0 s
  | .mSda1 => Sys2Proof.Machine.execMSda1 s
  | .arm => Sys2Proof.Machine.execArm s
  | .beginAddr => Sys2Proof.Machine.execBeginAddr s
  | .sdaIn => Sys2Proof.Machine.execSdaIn s
  | .sendAck => Sys2Proof.Machine.execSendAck s
  | .readAck => Sys2Proof.Machine.execReadAck s
  | .sendByte value => Sys2Proof.Machine.execSendByte value s
  | .recvByte => Sys2Proof.Machine.execRecvByte s
  | .setInput => Sys2Proof.Machine.execSetInput s
  | .setOutput => Sys2Proof.Machine.execSetOutput s
  | .writeAll b => Sys2Proof.Machine.execWriteAll b s
  | .readAll => Sys2Proof.Machine.execReadAll s
  | .idle => Sys2Proof.Machine.execIdle s
  | .addrSdaIn => Sys2Proof.Machine.execAddrSdaIn s
  | .addrWaitSclLow => Sys2Proof.Machine.execAddrWaitSclLow s
  | .addrBegin => Sys2Proof.Machine.execAddrBegin s
  | .addrWait => Sys2Proof.Machine.execAddrWait s
  | .addrAbort => Sys2Proof.Machine.execAddrAbort s
  | .addrCompare => Sys2Proof.Machine.execAddrCompare s
  | .addrReject => Sys2Proof.Machine.execAddrReject s
  | .addrAck => Sys2Proof.Machine.execAddrAck s
  | .dispatch => Sys2Proof.Machine.execDispatch s
  | .rdSetInput => Sys2Proof.Machine.execRdSetInput s
  | .rdSample => Sys2Proof.Machine.execRdSample s
  | .rdWaitAck => Sys2Proof.Machine.execRdWaitAck s
  | .rdSend => Sys2Proof.Machine.execRdSend s
  | .rdWaitSend => Sys2Proof.Machine.execRdWaitSend s
  | .rdMack => Sys2Proof.Machine.execRdMack s
  | .rdWaitMack => Sys2Proof.Machine.execRdWaitMack s
  | .rdRearm => Sys2Proof.Machine.execRdRearm s
  | .wrSetOutput => Sys2Proof.Machine.execWrSetOutput s
  | .wrWaitAck => Sys2Proof.Machine.execWrWaitAck s
  | .wrRecv => Sys2Proof.Machine.execWrRecv s
  | .wrWaitRecv => Sys2Proof.Machine.execWrWaitRecv s
  | .wrSack => Sys2Proof.Machine.execWrSack s
  | .wrWaitSack => Sys2Proof.Machine.execWrWaitSack s
  | .wrRearm => Sys2Proof.Machine.execWrRearm s
  | .wrWrite => Sys2Proof.Machine.execWrWrite s

end Sys2Proof.Machine
end

