-- ==== Sys2Proof/Machine/Fetch.lean ====
section
/-! DEFINITION. Whose step is next and which instruction it runs. The controller's word is the code in its phase
register; the bus master's word is the next event of the agenda; a word of another format is handed in (log 8). -/

namespace Sys2Proof.Machine

/-- What a step will do: run an instruction in a state, or stop by name. -/
inductive Fetched where
  | run (i : Instr) (s : State)
  | stop (r : Refusal)
deriving DecidableEq, Repr

/-- Running a phase is running with that phase in the phase register (R21, R170); no other instruction places
anything. -/
def placePhase (i : Instr) (s : State) : State :=
  match i with
  | .addrWrite => s
  | .addrRead => s
  | .addrOther _ _ => s
  | .data _ => s
  | .mScl0 => s
  | .mScl1 => s
  | .mSda0 => s
  | .mSda1 => s
  | .arm => s
  | .beginAddr => s
  | .sdaIn => s
  | .sendAck => s
  | .readAck => s
  | .sendByte _ => s
  | .recvByte => s
  | .setInput => s
  | .setOutput => s
  | .writeAll _ => s
  | .readAll => s
  | .idle => gotoPhase .idle s
  | .addrSdaIn => gotoPhase .addrSdaIn s
  | .addrWaitSclLow => gotoPhase .addrWaitSclLow s
  | .addrBegin => gotoPhase .addrBegin s
  | .addrWait => gotoPhase .addrWait s
  | .addrAbort => gotoPhase .addrAbort s
  | .addrCompare => gotoPhase .addrCompare s
  | .addrReject => gotoPhase .addrReject s
  | .addrAck => gotoPhase .addrAck s
  | .dispatch => gotoPhase .dispatch s
  | .rdSetInput => gotoPhase .rdSetInput s
  | .rdSample => gotoPhase .rdSample s
  | .rdWaitAck => gotoPhase .rdWaitAck s
  | .rdSend => gotoPhase .rdSend s
  | .rdWaitSend => gotoPhase .rdWaitSend s
  | .rdMack => gotoPhase .rdMack s
  | .rdWaitMack => gotoPhase .rdWaitMack s
  | .rdRearm => gotoPhase .rdRearm s
  | .wrSetOutput => gotoPhase .wrSetOutput s
  | .wrWaitAck => gotoPhase .wrWaitAck s
  | .wrRecv => gotoPhase .wrRecv s
  | .wrWaitRecv => gotoPhase .wrWaitRecv s
  | .wrSack => gotoPhase .wrSack s
  | .wrWaitSack => gotoPhase .wrWaitSack s
  | .wrRearm => gotoPhase .wrRearm s
  | .wrWrite => gotoPhase .wrWrite s

/-- A free-standing WRITE_ALL in Input mode is outside the hardware (R207, log 13). -/
def outsideHardware (i : Instr) (s : State) : Bool :=
  match i, s.portMode with
  | .writeAll _, .input => true
  | _, _ => false

/-- Decode a word and run it, with the turns of `rest` still to come. -/
def fetchWord (f : Format) (w : CodeWord) (rest : List Turn) (s : State) : Fetched :=
  match decode f w with
  | .error e => .stop (.undecodable e)
  | .ok i =>
    if outsideHardware i s then .stop .writeAllInInputMode
    else .run i (placePhase i { s with agenda := rest })

/-- The controller's step: the word is the code in its phase register (R21, R170). -/
def fetchPhase (rest : List Turn) (s : State) : Fetched := fetchWord .phase5 (phaseCode s.phase) rest s

/-- R120: with MASTER_WAITS true a master event is held while the controller is not quiescent. -/
def masterHeld (mw : Bool) (s : State) : Bool := !quiescent s && mw

/-- The turn at the head of the agenda decides. A held event, and a CTL that is not over, give the controller the
step and stay at the head; with nothing to come the controller polls (R220, R287). -/
def fetchTurn (mw : Bool) (s : State) : List Turn → Fetched
  | [] => fetchPhase [] s
  | .controller :: rest => fetchPhase rest s
  | .settle :: rest => if quiescent s then fetchTurn mw s rest else fetchPhase (.settle :: rest) s
  | .word .ev2 w :: rest =>
    if masterHeld mw s then fetchPhase (.word .ev2 w :: rest) s else fetchWord .ev2 w rest s
  | .word f w :: rest => fetchWord f w rest s
  | .outside r :: _ => .stop (.outsideHardware r)

/-- The next step: a state whose su_cnt is above 8 is no state of the hardware, and the run is rejected (R28,
93_implementation_defined.md section 1, log 17). -/
def fetchNext (mw : Bool) (s : State) : Fetched :=
  if 8 < s.suCnt then .stop .counterAboveEight else fetchTurn mw s s.agenda

/-- The state with a word at the head of the agenda. -/
def placeWord (f : Format) (w : CodeWord) (s : State) : State := { s with agenda := .word f w :: s.agenda }

/-- The state in which the conditions an instruction needs to run hold: a master event needs its line at the other
level (R110), and WRITE_ALL needs Output mode (R207). Where they hold already, and for every other instruction,
nothing changes (log 8). -/
def makeReady (i : Instr) (s : State) : State :=
  match i, s.portMode with
  | .mScl0, _ => setScl true s
  | .mScl1, _ => setScl false s
  | .mSda0, _ => setSdaM true s
  | .mSda1, _ => setSdaM false s
  | .writeAll _, .input => setOutput s
  | _, _ => s

/-- The state made ready for the instruction a word decodes to, if it decodes. -/
def makeReadyFor (f : Format) (w : CodeWord) (s : State) : State :=
  match decode f w with
  | .ok i => makeReady i s
  | .error _ => s

end Sys2Proof.Machine
end

