-- ==== Sys2Proof/Machine/Step.lean ====
section
/-! DEFINITION. One atomic step of one agent (R15, R170): the turn is fetched, its word decoded, the instruction run.
Nothing stands around exec: the turn is taken off the agenda before it. -/

namespace Sys2Proof.Machine

/-- One step when MASTER_WAITS has the value `mw` (R120). -/
def stepWith (mw : Bool) (s : State) : Host.Outcome State Fault Refusal :=
  match fetchNext mw s with
  | .run i t => exec i t
  | .stop r => .refused r

/-- One step of the hardware, whatever the open parameter is (log 2). -/
def step (s : State) : Host.Outcome State Fault Refusal := stepWith Config.masterWaits s

/-- One step of the controller alone: the rule of the phase in its phase register, the agenda untouched (R170). -/
def controllerStep (s : State) : Host.Outcome State Fault Refusal :=
  match fetchPhase s.agenda s with
  | .run i t => exec i t
  | .stop r => .refused r

/-- `k` controller steps with no master event between. -/
def controllerRun : Nat → State → Host.Outcome State Fault Refusal
  | 0, s => .next s
  | k + 1, s =>
    match controllerStep s with
    | .next t => controllerRun k t
    | .fault r => .fault r
    | .refused r => .refused r

/-- The state in which the next step runs the row of the table whose bits are `w`: the word at the head of the agenda,
and the conditions its instruction needs made to hold (log 8, log 9). -/
def State.withFetchWord (s : State) (nbits w : Nat) : State :=
  placeWord (tableWord nbits w).1 (tableWord nbits w).2 (makeReadyFor (tableWord nbits w).1 (tableWord nbits w).2 s)

end Sys2Proof.Machine
end

