-- ==== Sys2Proof/Machine/Script.lean ====
section
/-! DEFINITION. The bus script of spec/30_encoding.md R97 to R99: tokens, their expansion into master events, the
well-formed script of one transaction, and loading a script into the agenda. An expansion needs only the master's own
two drives, since no other agent writes them (R38). -/

namespace Sys2Proof.Machine

/-- The tokens (R97). -/
inductive Token where
  /-- S -/
  | start
  /-- Sr -/
  | repeatedStart
  /-- P -/
  | stop
  /-- W8 0xHH -/
  | write8 (b : Byte)
  /-- R8 -/
  | read8
  /-- RA -/
  | readAck
  /-- MA -/
  | masterAck
  /-- MN -/
  | masterNack
  /-- B0, B1 -/
  | bit (v : Bool)
  /-- CTL -/
  | ctl
deriving DecidableEq, Repr

/-- The master's two drives: SCL and its own SDA (R38). -/
structure MasterLines where
  scl : Bool
  sdaM : Bool
deriving DecidableEq, Repr

/-- An event is enabled when its line has the other level (R110). -/
def eventEnabled (m : MasterLines) : MasterEvent → Bool
  | .scl0 => m.scl
  | .scl1 => !m.scl
  | .sda0 => m.sdaM
  | .sda1 => !m.sdaM

/-- What an event leaves of the master's drives (R110). -/
def afterEvent (m : MasterLines) : MasterEvent → MasterLines
  | .scl0 => { m with scl := false }
  | .scl1 => { m with scl := true }
  | .sda0 => { m with sdaM := false }
  | .sda1 => { m with sdaM := true }

/-- What a list of events leaves, if each is enabled when its turn comes. -/
def afterEvents (m : MasterLines) : List MasterEvent → Option MasterLines
  | [] => some m
  | e :: rest => if eventEnabled m e then afterEvents (afterEvent m e) rest else none

/-- The event that brings the master's drive to `v`, if it is not there (R98). -/
def driveTo (sdaM v : Bool) : List MasterEvent :=
  if sdaM = v then [] else if v then [.sda1] else [.sda0]

/-- One clocked bit: the drive, a rise, a fall (R98). -/
def bitEvents (sdaM v : Bool) : List MasterEvent := driveTo sdaM v ++ [.scl1, .scl0]

/-- Clocked bits in order, the first one first on the wire. -/
def bitsEvents (sdaM : Bool) : List Bool → List MasterEvent
  | [] => []
  | v :: rest => bitEvents sdaM v ++ bitsEvents v rest

/-- The bits of a byte as they go on the wire, most significant first (R63). -/
def wireBits (b : Byte) : List Bool :=
  [b.getLsbD 7, b.getLsbD 6, b.getLsbD 5, b.getLsbD 4, b.getLsbD 3, b.getLsbD 2, b.getLsbD 1, b.getLsbD 0]

/-- The precondition of a token (R97). -/
def tokenEnabled (m : MasterLines) : Token → Bool
  | .start => m.scl && m.sdaM
  | .repeatedStart => !m.scl
  | .stop => !m.scl
  | .write8 _ => !m.scl
  | .read8 => !m.scl
  | .readAck => !m.scl
  | .masterAck => !m.scl
  | .masterNack => !m.scl
  | .bit _ => !m.scl
  | .ctl => true

/-- The events a token expands to (R98). CTL makes no event. -/
def tokenEvents (m : MasterLines) : Token → List MasterEvent
  | .start => [.sda0, .scl0]
  | .repeatedStart => driveTo m.sdaM true ++ [.scl1, .sda0, .scl0]
  | .stop => driveTo m.sdaM false ++ [.scl1, .sda1]
  | .write8 b => bitsEvents m.sdaM (wireBits b)
  | .read8 => bitsEvents m.sdaM (List.replicate 8 true)
  | .readAck => bitEvents m.sdaM true
  | .masterAck => bitEvents m.sdaM false
  | .masterNack => bitEvents m.sdaM true
  | .bit v => bitEvents m.sdaM v
  | .ctl => []

/-- The master's drives after a token whose precondition holds. -/
def afterToken (m : MasterLines) (t : Token) : MasterLines := (tokenEvents m t).foldl afterEvent m

/-- An event as the instruction it is. -/
def eventInstr : MasterEvent → Instr
  | .scl0 => .mScl0
  | .scl1 => .mScl1
  | .sda0 => .mSda0
  | .sda1 => .mSda1

/-- An event as a turn of the agenda. -/
def eventTurn (e : MasterEvent) : Turn := .word .ev2 (eventCode e)

/-- The turns of a token. -/
def tokenTurns (m : MasterLines) (t : Token) : List Turn :=
  match t with
  | .ctl => [.settle]
  | t => (tokenEvents m t).map eventTurn

/-- The turns of a script, or the position of the first token whose precondition fails (R98). -/
def scriptTurns (m : MasterLines) (position : Nat) : List Token → Except Nat (List Turn)
  | [] => .ok []
  | t :: rest =>
    if tokenEnabled m t then
      match scriptTurns (afterToken m t) (position + 1) rest with
      | .ok turns => .ok (tokenTurns m t ++ turns)
      | .error n => .error n
    else .error position

/-- What a turn still to come will leave of the master's drives. -/
def afterTurn (m : MasterLines) : Turn → MasterLines
  | .word .ev2 w =>
    match decode .ev2 w with
    | .ok .mScl0 => afterEvent m .scl0
    | .ok .mScl1 => afterEvent m .scl1
    | .ok .mSda0 => afterEvent m .sda0
    | .ok .mSda1 => afterEvent m .sda1
    | _ => m
  | _ => m

/-- The master's drives when the agenda's events have happened. -/
def pendingLines (s : State) : MasterLines := s.agenda.foldl afterTurn { scl := s.scl, sdaM := s.sdaM }

/-- Controller turns put before the turns of a list, as many before each as the schedule says and none where it has
ended: the free interleaving of R120 with MASTER_WAITS false. -/
def interleave : List Nat → List Turn → List Turn
  | _, [] => []
  | [], turn :: rest => turn :: interleave [] rest
  | k :: ks, turn :: rest => List.replicate k .controller ++ turn :: interleave ks rest

/-- Loads a script behind what the agenda holds, with the controller turns of a schedule between its turns; a token
whose precondition fails is refused (R98). -/
def loadScheduled (schedule : List Nat) (script : List Token) (s : State) : Host.Outcome State Fault Refusal :=
  match scriptTurns (pendingLines s) 0 script with
  | .ok turns => .next { s with agenda := s.agenda ++ interleave schedule turns }
  | .error n => .refused (.scriptToken n)

/-- Loads a script with no controller turn between its events but those of CTL. With MASTER_WAITS true the held events
let the controller go first all the same; with MASTER_WAITS false the master then always goes first, and this one
schedule of the many R120 allows is the model's choice (log 26). `loadScheduled` takes any other. -/
def loadScript (script : List Token) (s : State) : Host.Outcome State Fault Refusal := loadScheduled [] script s

/-- The frames of one transaction, before its P or Sr (R99). -/
inductive TransactionFrames : List Token → Prop where
  /-- a byte that selects nothing: the address frame alone -/
  | notSelected (a : Byte) (h : addressField a ≠ Config.deviceAddress) :
      TransactionFrames [.start, .write8 a, .readAck]
  /-- a Write -/
  | write (a d : Byte) (h : addressField a = Config.deviceAddress) (hw : rwField a = false) :
      TransactionFrames [.start, .write8 a, .readAck, .write8 d, .readAck]
  /-- a Read, the master's acknowledge either way -/
  | read (a : Byte) (ack : Token) (h : addressField a = Config.deviceAddress) (hr : rwField a = true)
      (ha : ack = .masterAck ∨ ack = .masterNack) :
      TransactionFrames [.start, .write8 a, .readAck, .read8, ack]

/-- The well-formed script of one transaction: its frames, then P or Sr (R99). -/
inductive TransactionScript : List Token → Prop where
  | ends (frames : List Token) (close : Token) (h : TransactionFrames frames)
      (hc : close = .stop ∨ close = .repeatedStart) : TransactionScript (frames ++ [close])

end Sys2Proof.Machine
end

