-- ==== Sys2Proof/Safety.lean ====
section
/-! DEFINITION. The terms claims use: the source's bus phases, the parts of the state a step may leave alone, the
invariants of the block, launch and end of a run, and running a list of instructions. -/

namespace Sys2Proof.Machine

/-! ### The source's states -/

/-- BusPhase, the source's states (R22). -/
inductive BusPhase where
  | idle
  | addressMatch
  | acknowledged
  | exchanging
deriving DecidableEq, Repr

/-- The source's state a phase belongs to; WR_WRITE is Poller work after the return to Idle (R22). -/
def busPhase : Phase → BusPhase
  | .idle => .idle
  | .addrSdaIn => .addressMatch
  | .addrWaitSclLow => .addressMatch
  | .addrBegin => .addressMatch
  | .addrWait => .addressMatch
  | .addrAbort => .addressMatch
  | .addrCompare => .addressMatch
  | .addrReject => .addressMatch
  | .addrAck => .acknowledged
  | .dispatch => .acknowledged
  | .rdSetInput => .acknowledged
  | .rdSample => .acknowledged
  | .rdWaitAck => .acknowledged
  | .rdSend => .exchanging
  | .rdWaitSend => .exchanging
  | .rdMack => .exchanging
  | .rdWaitMack => .exchanging
  | .rdRearm => .exchanging
  | .wrSetOutput => .acknowledged
  | .wrWaitAck => .acknowledged
  | .wrRecv => .exchanging
  | .wrWaitRecv => .exchanging
  | .wrSack => .exchanging
  | .wrWaitSack => .exchanging
  | .wrRearm => .exchanging
  | .wrWrite => .idle

/-- The source's sequence: Idle, AddressMatch, Acknowledged, Exchanging, Idle, with the way back from AddressMatch
to Idle on a mismatch or a stop (R22). -/
def busPhaseFollows : BusPhase → BusPhase → Bool
  | .idle, .addressMatch => true
  | .addressMatch, .acknowledged => true
  | .addressMatch, .idle => true
  | .acknowledged, .exchanging => true
  | .exchanging, .idle => true
  | _, _ => false

/-- What `poll_selected()` has returned when the sequencer stands in this state (R192): `None` in IDLE,
`Some(dir)` in DISPATCH, and nothing yet anywhere else. -/
def pollResult (s : State) : Option (Option Direction) :=
  match s.phase with
  | .idle => some none
  | .dispatch => some (some s.dir)
  | _ => none

/-! ### Parts of the state -/

/-- The port registers (R33 to R36) are the same. -/
abbrev SamePort (s t : State) : Prop :=
  t.portMode = s.portMode ∧ t.g1Dir = s.g1Dir ∧ t.g1Out = s.g1Out ∧ t.g2Dir = s.g2Dir ∧ t.g2Out = s.g2Out ∧
    t.ind = s.ind

/-- The sequencer's registers (R21 to R24) are the same. -/
abbrev SameSequencer (s t : State) : Prop := t.phase = s.phase ∧ t.dir = s.dir ∧ t.xfer = s.xfer

/-- The bus lines (R38) are the same. -/
abbrev SameBus (s t : State) : Prop := t.scl = s.scl ∧ t.sdaM = s.sdaM

/-- The model's own fields are the same. -/
abbrev SameModelFields (s t : State) : Prop :=
  t.samples = s.samples ∧ t.result = s.result ∧ t.agenda = s.agenda

/-- The bits of the group registers outside M1 and M2, which the block does not own (R208), are the same. -/
abbrev SameUnmapped (s t : State) : Prop :=
  t.g1Dir &&& ~~~Config.maskG1 = s.g1Dir &&& ~~~Config.maskG1 ∧
  t.g1Out &&& ~~~Config.maskG1 = s.g1Out &&& ~~~Config.maskG1 ∧
  t.g2Dir &&& ~~~Config.maskG2 = s.g2Dir &&& ~~~Config.maskG2 ∧
  t.g2Out &&& ~~~Config.maskG2 = s.g2Out &&& ~~~Config.maskG2

/-! ### Invariants -/

/-- R37: in Input mode the mapped pins are released with latch 0 and the indicator is off; in Output mode they are
driven and it is on. -/
abbrev PortInv (s : State) : Prop :=
  (s.portMode = .input → s.g1Dir &&& Config.maskG1 = 0 ∧ s.g2Dir &&& Config.maskG2 = 0 ∧
    s.g1Out &&& Config.maskG1 = 0 ∧ s.g2Out &&& Config.maskG2 = 0 ∧ s.ind = false) ∧
  (s.portMode = .output → s.g1Dir &&& Config.maskG1 = Config.maskG1 ∧
    s.g2Dir &&& Config.maskG2 = Config.maskG2 ∧ s.ind = true)

/-- What each phase knows of the direction and the port mode: the reason WRITE_ALL is issued in Output mode only
and READ_ALL in Input mode only (R207, R221 to R225). -/
def phaseAgrees : Phase → Direction → PortMode → Bool
  | .idle, _, _ => true
  | .addrSdaIn, _, _ => true
  | .addrWaitSclLow, _, _ => true
  | .addrBegin, _, _ => true
  | .addrWait, _, _ => true
  | .addrAbort, _, _ => true
  | .addrCompare, _, _ => true
  | .addrReject, _, _ => true
  | .addrAck, _, _ => true
  | .dispatch, _, _ => true
  | .rdSetInput, d, m => d == .read && m == .output
  | .rdSample, d, m => d == .read && m == .input
  | .rdWaitAck, d, m => d == .read && m == .input
  | .rdSend, d, m => d == .read && m == .input
  | .rdWaitSend, d, m => d == .read && m == .input
  | .rdMack, d, m => d == .read && m == .input
  | .rdWaitMack, d, m => d == .read && m == .input
  | .rdRearm, d, m => d == .read && m == .input
  | .wrSetOutput, d, m => d == .write && m == .input
  | .wrWaitAck, d, m => d == .write && m == .output
  | .wrRecv, d, m => d == .write && m == .output
  | .wrWaitRecv, d, m => d == .write && m == .output
  | .wrSack, d, m => d == .write && m == .output
  | .wrWaitSack, d, m => d == .write && m == .output
  | .wrRearm, d, m => d == .write && m == .output
  | .wrWrite, d, m => d == .write && m == .output

/-- R118, R119: the count never passes the configured length, overflow is the count at that length, and in WATCH
nothing is counted and SDA is released. -/
abbrev ShiftInv (s : State) : Prop :=
  s.suCnt ≤ suLenVal s.suLen ∧
  (s.fOvf = true → s.suCnt = suLenVal s.suLen) ∧
  (s.suMode ≠ .watch → s.fOvf = false → s.suCnt < suLenVal s.suLen) ∧
  (s.suMode = .watch → s.fOvf = false ∧ s.suCnt = 0 ∧ s.sdaS = true)

/-- A turn of the hardware's own two agents (R15): the controller, or a master event. -/
def hardwareTurn : Turn → Bool
  | .controller => true
  | .settle => true
  | .word f _ => f == .ev2
  | .outside _ => false

/-- The interleaving still to come is the hardware's own (LP_ONE_MASTER of R275; log 8). -/
abbrev HardwareAgenda (s : State) : Prop := s.agenda.all hardwareTurn = true

/-- The port's invariant with what makes it inductive. -/
abbrev BlockInv (s : State) : Prop :=
  PortInv s ∧ phaseAgrees s.phase s.dir s.portMode = true ∧ HardwareAgenda s

/-- What each phase knows of SCL and of the slave's drive when MASTER_WAITS is true (R121): the unit is armed or
receiving with SDA released, or SCL is low; and an overflow was raised by a falling edge. -/
def timelyPhase (s : State) : Bool :=
  match s.phase with
  | .idle => s.suMode == .watch && s.sdaS
  | .addrSdaIn => s.suMode == .watch && s.sdaS
  | .addrWaitSclLow => s.suMode == .watch && s.sdaS
  | .addrBegin => s.suMode == .watch && s.sdaS
  | .addrWait => s.suMode == .rx && s.sdaS && (!s.fOvf || !s.scl)
  | .addrAbort => s.sdaS
  | .addrCompare => s.sdaS && !s.scl
  | .addrReject => s.sdaS
  | .addrAck => !s.scl
  | .dispatch => !s.scl
  | .rdSetInput => !s.scl
  | .rdSample => !s.scl
  | .rdWaitAck => !s.fOvf || !s.scl
  | .rdSend => !s.scl
  | .rdWaitSend => !s.fOvf || !s.scl
  | .rdMack => !s.scl
  | .rdWaitMack => !s.fOvf || !s.scl
  | .rdRearm => !s.scl
  | .wrSetOutput => !s.scl
  | .wrWaitAck => !s.fOvf || !s.scl
  | .wrRecv => !s.scl
  | .wrWaitRecv => !s.fOvf || !s.scl
  | .wrSack => !s.scl
  | .wrWaitSack => !s.fOvf || !s.scl
  | .wrRearm => !s.scl
  | .wrWrite => s.suMode == .watch && s.sdaS

/-- The invariant of runs in which the slave keeps up (R121, R280). -/
abbrev TimelyInv (s : State) : Prop := timelyPhase s = true ∧ HardwareAgenda s

/-! ### Launch and end of a run -/

/-- The launch premises (R275): reset with any draws, an idle bus, and an interleaving of the hardware's own agents
to come. -/
def Launch (s : State) : Prop :=
  ∃ dir xfer sr suLen turns, s = { State.resetWith dir xfer sr suLen with agenda := turns } ∧ HardwareAgenda s

/-- The end of a run of a finite script: all of it performed and the controller quiescent (R287). It does not say
that the hardware stops, that the bus is idle or that the flags are clear. -/
def RunEnded (s : State) : Prop := s.agenda = [] ∧ quiescent s = true

/-! ### Lists of instructions -/

/-- Instructions one after the other, stopping at the first that has no next state. -/
def runInstrs : List Instr → State → Host.Outcome State Fault Refusal
  | [], s => .next s
  | i :: rest, s =>
    match exec i s with
    | .next t => runInstrs rest t
    | .fault r => .fault r
    | .refused r => .refused r

/-- The SDA levels the master reads: the level after each of its rising edges (R97). -/
def levelsRead : List MasterEvent → State → List Bool
  | [], _ => []
  | e :: rest, s =>
    match exec (eventInstr e) s with
    | .next t => if e = .scl1 then sda t :: levelsRead rest t else levelsRead rest t
    | .fault _ => []
    | .refused _ => []

end Sys2Proof.Machine
end

