-- ==== Sys2Proof/Certificates/Slice0/Obligations.lean ====
section
/-! DEFINITION. What is claimed of the block, rule by rule. Where a statement gives the state after an instruction it
gives the whole state, so what it does not name is unchanged: every register, flag, port bit, line and model field.
SDA levels are written out as the wired-AND of the two drives. `samples`, `result` and `agenda` are the model's own
fields (logs 1, 3, 4). No statement rests on a value of MASTER_WAITS or of PinInput. -/

open Sys2Proof Sys2Proof.Machine

/-! ### Reset -/

/-- R42: the fields the spec fixes have their values whatever the draws of dir, xfer, sr and su_len are, and the
model's reset state is one of these. -/
def Obligations.ResetLeavesTheBlockArmedInInputMode : Prop :=
  (∀ dir xfer sr suLen, ∀ s, s = State.resetWith dir xfer sr suLen →
    s.phase = .idle ∧ s.dir = dir ∧ s.xfer = xfer ∧ s.sr = sr ∧ s.suMode = .watch ∧ s.suLen = suLen ∧ s.suCnt = 0 ∧
    s.fStart = false ∧ s.fOvf = false ∧ s.fStop = false ∧ s.sdaS = true ∧ s.portMode = .input ∧
    s.g1Dir &&& 0x8F = 0 ∧ s.g2Dir &&& 0x07 = 0 ∧ s.g1Out &&& 0x8F = 0 ∧ s.g2Out &&& 0x07 = 0 ∧ s.ind = false ∧
    s.scl = true ∧ s.sdaM = true) ∧
  (∃ dir xfer sr suLen, State.reset = State.resetWith dir xfer sr suLen)

/-- R271: with no master event to come the first step after reset is the IDLE poll, which stays. -/
def Obligations.FirstStepAfterResetIsTheIdlePoll : Prop :=
  ∀ mw dir xfer sr suLen,
    stepWith mw (State.resetWith dir xfer sr suLen) = exec .idle (State.resetWith dir xfer sr suLen) ∧
    stepWith mw (State.resetWith dir xfer sr suLen) = .next (State.resetWith dir xfer sr suLen)

/-! ### Encodings -/

/-- Every well-formed instruction is read back from its word, with every operand at every value (R81 to R84, R92 to
R95). -/
def Obligations.DecodingAnEncodedInstructionGivesItBack : Prop :=
  ∀ i : Instr, WellFormed i → decode (formatOf i) (encode i) = .ok i

/-- A word that decodes is the word of exactly that instruction, which is well-formed and of that format. -/
def Obligations.EveryDecodedWordIsItsInstructionsEncoding : Prop :=
  ∀ (f : Format) (w : CodeWord) (i : Instr), decode f w = .ok i → formatOf i = f ∧ encode i = w ∧ WellFormed i

/-- R90: the decoded words are exactly those whose code is assigned and whose unused operand is 0x00; every address
byte, data byte and event code decodes. -/
def Obligations.ReservedCodesAreExactlyTheRefusedWords : Prop :=
  ∀ w : CodeWord,
    ((∃ i, decode .scmd12 w = .ok i) ↔
      1 ≤ w.toNat / 256 ∧ w.toNat / 256 ≤ 7 ∧ (w.toNat / 256 ≠ 6 → w.toNat % 256 = 0)) ∧
    ((∃ i, decode .pcmd12 w = .ok i) ↔
      8 ≤ w.toNat / 256 ∧ w.toNat / 256 ≤ 11 ∧ (w.toNat / 256 ≠ 10 → w.toNat % 256 = 0)) ∧
    ((∃ i, decode .phase5 w = .ok i) ↔ w.toNat ≤ 25) ∧
    ((∃ i, decode .ev2 w = .ok i) ↔ w.toNat ≤ 3) ∧
    ((∃ i, decode .addr8 w = .ok i) ↔ w.toNat ≤ 255) ∧
    ((∃ i, decode .data8 w = .ok i) ↔ w.toNat ≤ 255)

/-- R82, R83: of the 256 address bytes only 0x84 and 0x85 select the block, and the others keep their two fields. -/
def Obligations.OnlyTwoAddressBytesSelectTheBlock : Prop :=
  ∀ b : Byte,
    (decode .addr8 (b.setWidth 16) = .ok .addrWrite ↔ b = 0x84) ∧
    (decode .addr8 (b.setWidth 16) = .ok .addrRead ↔ b = 0x85) ∧
    (b ≠ 0x84 → b ≠ 0x85 →
      decode .addr8 (b.setWidth 16) = .ok (.addrOther ((b >>> 1).setWidth 7) (b.getLsbD 0)))

/-- A few words written out bit by bit from the tables of R83 and R92 to R95. -/
def Obligations.SampleWordsDecodeAsTheTablesSay : Prop :=
  decode .addr8 0b1000_0100 = .ok .addrWrite ∧
  decode .addr8 0b1000_0101 = .ok .addrRead ∧
  decode .addr8 0b1001_0000 = .ok (.addrOther 0b1001000 false) ∧
  decode .data8 0b1010_0101 = .ok (.data 0xA5) ∧
  decode .ev2 0b01 = .ok .mScl1 ∧
  decode .scmd12 0b0110_0101_1010 = .ok (.sendByte 0x5A) ∧
  decode .pcmd12 0b1010_1100_0011 = .ok (.writeAll 0xC3) ∧
  decode .phase5 0b11001 = .ok .wrWrite

/-- R86, R87: the pin map is a bijection on the mapped bits, bit by bit as the table has it. -/
def Obligations.PinMapIsTheBijectionOfTheTable : Prop :=
  ∀ b p1 p2 : Byte,
    fromG (toG1 b) (toG2 b) = b ∧
    toG1 (fromG p1 p2) = p1 &&& 0x8F ∧ toG2 (fromG p1 p2) = p2 &&& 0x07 ∧
    (toG1 b).getLsbD 0 = b.getLsbD 0 ∧ (toG1 b).getLsbD 1 = b.getLsbD 1 ∧ (toG1 b).getLsbD 2 = b.getLsbD 2 ∧
    (toG1 b).getLsbD 3 = b.getLsbD 3 ∧ (toG1 b).getLsbD 7 = b.getLsbD 7 ∧
    (toG2 b).getLsbD 0 = b.getLsbD 4 ∧ (toG2 b).getLsbD 1 = b.getLsbD 5 ∧ (toG2 b).getLsbD 2 = b.getLsbD 6 ∧
    toG1 b &&& 0x70 = 0 ∧ toG2 b &&& 0xF8 = 0

/-! ### The step -/

/-- A step runs the decoded instruction: the phase in the phase register when the controller has the turn, the
decoded word when a word has it and may run (an event that is not held, R120; no WRITE_ALL offered in Input mode,
R207), in every state whose su_cnt is one R28 has. Before exec the turn is taken off the agenda, and a handed phase
is placed in the phase register; nothing stands after exec. -/
def Obligations.StepRunsTheDecodedInstruction : Prop :=
  (∀ s, step s = stepWith Config.masterWaits s) ∧
  (∀ mw s, s.suCnt ≤ 8 → s.agenda = [] → stepWith mw s = exec (phaseInstr s.phase) s) ∧
  (∀ mw s rest, s.suCnt ≤ 8 → s.agenda = .controller :: rest →
    stepWith mw s = exec (phaseInstr s.phase) { s with agenda := rest }) ∧
  (∀ mw s f w rest i, s.suCnt ≤ 8 → s.agenda = .word f w :: rest → decode f w = .ok i →
    (f = .ev2 → mw = false ∨ quiescent s = true) → ((∃ b, i = .writeAll b) → s.portMode = .output) →
    (∀ p, i ≠ phaseInstr p) → stepWith mw s = exec i { s with agenda := rest }) ∧
  (∀ mw s f w rest p, s.suCnt ≤ 8 → s.agenda = .word f w :: rest → decode f w = .ok (phaseInstr p) →
    stepWith mw s = exec (phaseInstr p) { s with phase := p, agenda := rest })

/-- R120, R97: with MASTER_WAITS true a master event waits while the controller is not quiescent, and the controller
has the step; CTL gives the controller the step until it is quiescent and then falls away. R97 gives CTL to
MASTER_WAITS runs only: that the CTL clauses hold for MASTER_WAITS false too is the model's choice (log 18). -/
def Obligations.ControllerGoesFirstWhileNotQuiescent : Prop :=
  (∀ s w rest, s.suCnt ≤ 8 → s.agenda = .word .ev2 w :: rest → quiescent s = false → stepWith true s = controllerStep s) ∧
  (∀ mw s rest, s.suCnt ≤ 8 → s.agenda = .settle :: rest → quiescent s = false → stepWith mw s = controllerStep s) ∧
  (∀ mw s rest, s.suCnt ≤ 8 → s.agenda = .settle :: rest → quiescent s = true →
    stepWith mw s = stepWith mw { s with agenda := rest })

/-- What the spec has a model refuse is refused by name: a reset in the run (R273), a second master (R256), a second
agent (R75), a word that does not decode (R90), WRITE_ALL offered in Input mode (R207). -/
def Obligations.RequestsOutsideTheHardwareAreRefused : Prop :=
  (∀ mw s r rest, s.suCnt ≤ 8 → s.agenda = .outside r :: rest → stepWith mw s = .refused (.outsideHardware r)) ∧
  (∀ mw s f w rest e, s.suCnt ≤ 8 → s.agenda = .word f w :: rest → f ≠ .ev2 → decode f w = .error e →
    stepWith mw s = .refused (.undecodable e)) ∧
  (∀ mw s w rest b, s.suCnt ≤ 8 → s.agenda = .word .pcmd12 w :: rest → decode .pcmd12 w = .ok (.writeAll b) →
    s.portMode = .input → stepWith mw s = .refused .writeAllInInputMode)

/-- R120: the controller is quiescent exactly where its next step would be `stay`, writing nothing. -/
def Obligations.QuiescentExactlyWhenTheStepStays : Prop :=
  ∀ s, quiescent s = true ↔ controllerStep s = .next s

/-- R170, R240: the controller has a step in every state, reachable or not; it never faults and is never refused. -/
def Obligations.ControllerAlwaysHasAStep : Prop :=
  ∀ s, ∃ t, controllerStep s = .next t ∧ controllerStep s = exec (phaseInstr s.phase) s

/-- R290: from any state at most 6 controller steps pass before the controller is quiescent, and on the longest
chain, a Read that switches the port, from ADDR_WAIT, all 6 are needed. -/
def Obligations.ControllerIsQuiescentWithinSixSteps : Prop :=
  (∀ s, ∃ k t, k ≤ 6 ∧ controllerRun k s = .next t ∧ quiescent t = true) ∧
  (∀ s, s.phase = .addrWait → s.fStop = false → s.fOvf = true → s.sr = 0x85 → s.portMode = .output →
    (∀ k t, k < 6 → controllerRun k s = .next t → quiescent t = false) ∧
    ∃ t, controllerRun 6 s = .next t ∧ t.phase = .rdWaitAck ∧ quiescent t = true)

/-! ### The bus master's events -/

/-- R111, R116: the rising edge samples the line into bit 0 in RX and TX unless the unit has overflowed. -/
def Obligations.RisingEdgeSamplesTheLine : Prop :=
  ∀ s, s.scl = false →
    exec .mScl1 s = .next
      (if (s.suMode = .rx ∨ s.suMode = .tx) ∧ s.fOvf = false then
        { s with scl := true, sr := (s.sr <<< 1) ||| (if s.sdaM && s.sdaS then 1 else 0) }
      else { s with scl := true })

/-- R112, R117: the falling edge counts, raises overflow at the configured length, and otherwise presents the next
transmitted bit. Where it would count above 8, a value R28 does not have, it is refused: CounterAboveEightIsRefused. -/
def Obligations.FallingEdgeCountsAndPresents : Prop :=
  ∀ s, s.scl = true → (s.suMode ≠ .watch → s.fOvf = false → s.suCnt < 8) →
    exec .mScl0 s = .next
      (if (s.suMode = .rx ∨ s.suMode = .tx) ∧ s.fOvf = false then
        (if s.suCnt + 1 = (match s.suLen with | .one => 1 | .eight => 8) then
          { s with scl := false, suCnt := s.suCnt + 1, fOvf := true }
        else if s.suMode = .tx then
          { s with scl := false, suCnt := s.suCnt + 1, sdaS := s.sr.getLsbD 7 }
        else { s with scl := false, suCnt := s.suCnt + 1 })
      else { s with scl := false })

/-- R113, R114: the master's drive moves; while SCL is high and the slave has released SDA the fall is a start and
the rise is a stop; while the slave holds SDA low neither is. -/
def Obligations.MasterDriveMakesStartAndStop : Prop :=
  ∀ s,
    (s.sdaM = true → exec .mSda0 s = .next { s with sdaM := false, fStart := s.fStart || (s.scl && s.sdaS) }) ∧
    (s.sdaM = false → exec .mSda1 s = .next { s with sdaM := true, fStop := s.fStop || (s.scl && s.sdaS) })

/-- R110: an event whose line already has the level is not enabled. R110 gives the precondition only: that exec answers
with a refusal by name is the model's reading (log 12), from R98, which has a model refuse a script token whose
precondition fails. -/
def Obligations.EventsNeedTheOtherLevel : Prop :=
  ∀ s,
    (s.scl = true → exec .mScl1 s = .refused (.eventNotEnabled .scl1)) ∧
    (s.scl = false → exec .mScl0 s = .refused (.eventNotEnabled .scl0)) ∧
    (s.sdaM = false → exec .mSda0 s = .refused (.eventNotEnabled .sda0)) ∧
    (s.sdaM = true → exec .mSda1 s = .refused (.eventNotEnabled .sda1))

/-- R118, R119: after overflow, and in WATCH, an edge changes the line and nothing else. -/
def Obligations.OverflowAndWatchHoldTheUnit : Prop :=
  ∀ s, s.fOvf = true ∨ s.suMode = .watch →
    (s.scl = false → exec .mScl1 s = .next { s with scl := true }) ∧
    (s.scl = true → exec .mScl0 s = .next { s with scl := false })

/-- R20, R254: the bus master reaches the lines, sr, su_cnt, the flags and, in a transmission, the presented bit,
and nothing else. -/
def Obligations.BusMasterReachesNoOtherRegister : Prop :=
  ∀ e s t, exec (eventInstr e) s = .next t →
    SameSequencer s t ∧ SamePort s t ∧ t.suMode = s.suMode ∧ t.suLen = s.suLen ∧ SameModelFields s t ∧
    (t.sdaS ≠ s.sdaS → e = .scl0 ∧ s.suMode = .tx) ∧
    (t.sr ≠ s.sr → e = .scl1) ∧ (t.suCnt ≠ s.suCnt → e = .scl0)

/-! ### Flags -/

/-- R114, R115, R29, R31: after every step of every agent f_start is set exactly where it stood and was not cleared,
or a start condition was made, the set winning over a clear in the same step; f_stop likewise. Only ARM and BEGIN_ADDR
and the phases that issue them clear the two flags. -/
def Obligations.StartAndStopFlagsFollowTheDetectors : Prop :=
  ∀ i s t, exec i s = .next t →
    let clears := i ∈ [Instr.arm, .beginAddr, .addrBegin, .addrAbort, .addrReject, .rdRearm, .wrRearm]
    (t.fStart = true ↔ (s.fStart = true ∧ ¬ clears) ∨
      (s.scl = true ∧ t.scl = true ∧ (s.sdaM && s.sdaS) = true ∧ (t.sdaM && t.sdaS) = false)) ∧
    (t.fStop = true ↔ (s.fStop = true ∧ ¬ clears) ∨
      (s.scl = true ∧ t.scl = true ∧ (s.sdaM && s.sdaS) = false ∧ (t.sdaM && t.sdaS) = true))

/-- R30, R117: only a falling edge that reaches the configured length raises overflow, and only a shift-unit command
other than SDA_IN, or a step that issues one, clears it. -/
def Obligations.OverflowIsRaisedByEdgesAndClearedByCommands : Prop :=
  ∀ i s t, exec i s = .next t →
    (s.fOvf = false → t.fOvf = true →
      i = .mScl0 ∧ s.suMode ≠ .watch ∧ s.suCnt + 1 = (match s.suLen with | .one => 1 | .eight => 8)) ∧
    (s.fOvf = true → t.fOvf = false →
      i ∈ [Instr.arm, .beginAddr, .sendAck, .readAck, .recvByte, .addrBegin, .addrAbort, .addrReject, .addrAck,
        .rdSend, .rdMack, .rdRearm, .wrRecv, .wrSack, .wrRearm] ∨
      (∃ v, i = .sendByte v) ∨ (∃ b, i = .data b ∧ s.dir = .read))

/-- R195, R29, R31: outside IDLE the controller does not read f_start, and outside ADDR_WAIT it does not read f_stop:
changing the unread flag changes at most that flag afterwards. -/
def Obligations.FlagsAreReadOnlyInIdleAndAddrWait : Prop :=
  ∀ s t v, controllerStep s = .next t →
    (s.phase ≠ .idle → ∃ v', controllerStep { s with fStart := v } = .next { t with fStart := v' }) ∧
    (s.phase ≠ .addrWait → ∃ v', controllerStep { s with fStop := v } = .next { t with fStop := v' })

/-! ### The shift unit's commands -/

/-- R140 to R147: the table of the seven commands, every other field unchanged, with the detectors of R114 after each
(log 25): a set wins over the command's clear in the same step (R115). -/
def Obligations.ShiftCommandsWriteTheirRow : Prop :=
  ∀ s,
    let released := s.scl && s.sdaM && !s.sdaS
    exec .arm s = .next
      { s with suMode := .watch, suCnt := 0, fStart := false, fOvf := false, fStop := released, sdaS := true } ∧
    exec .beginAddr s = .next
      { s with suMode := .rx, suLen := .eight, suCnt := 0, fStart := false, fOvf := false, fStop := released,
               sdaS := true } ∧
    exec .sdaIn s = .next { s with sdaS := true, fStop := s.fStop || released } ∧
    exec .sendAck s = .next
      { s with suMode := .tx, suLen := .one, suCnt := 0, fOvf := false, sr := 0x00, sdaS := false,
               fStart := s.fStart || (s.scl && s.sdaM && s.sdaS) } ∧
    exec .readAck s = .next
      { s with suMode := .rx, suLen := .one, suCnt := 0, fOvf := false, sdaS := true,
               fStop := s.fStop || released } ∧
    (∀ v : Byte, exec (.sendByte v) s = .next
      { s with suMode := .tx, suLen := .eight, suCnt := 0, fOvf := false, sr := v, sdaS := v.getLsbD 7,
               fStart := s.fStart || (s.scl && s.sdaM && s.sdaS && !v.getLsbD 7),
               fStop := s.fStop || (released && v.getLsbD 7) }) ∧
    exec .recvByte s = .next
      { s with suMode := .rx, suLen := .eight, suCnt := 0, fOvf := false, sdaS := true,
               fStop := s.fStop || released }

/-- R141: a second ARM changes nothing, unless the first one itself released SDA under a high SCL (R115). -/
def Obligations.ArmIsIdempotent : Prop :=
  ∀ s t, exec .arm s = .next t → s.scl = false ∨ s.sdaM = false ∨ s.sdaS = true → exec .arm t = .next t

/-! ### The port -/

/-- R202, R203: the codes of set_mode and what it writes; every bit outside the masks is kept. -/
def Obligations.SetModeSwitchesDirectionLatchAndIndicator : Prop :=
  decode .pcmd12 0x800 = .ok .setInput ∧ decode .pcmd12 0x900 = .ok .setOutput ∧
  ∀ s,
    exec .setInput s = .next
      { s with g1Dir := s.g1Dir &&& 0x70, g2Dir := s.g2Dir &&& 0xF8, g1Out := s.g1Out &&& 0x70,
               g2Out := s.g2Out &&& 0xF8, ind := false, portMode := .input } ∧
    exec .setOutput s = .next
      { s with g1Dir := s.g1Dir ||| 0x8F, g2Dir := s.g2Dir ||| 0x07, ind := true, portMode := .output }

/-- R204: code 0xA is WRITE_ALL with its operand; it maps the byte onto both latches under their masks, in one step,
whatever the port mode is. -/
def Obligations.WriteAllWritesBothLatches : Prop :=
  ∀ s (b : Byte), decode .pcmd12 (0xA00 ||| b.setWidth 16) = .ok (.writeAll b) ∧ exec (.writeAll b) s = .next
    { s with g1Out := (s.g1Out &&& 0x70) ||| (b &&& 0x8F), g2Out := (s.g2Out &&& 0xF8) ||| ((b >>> 4) &&& 0x07) }

/-- R201, R205: READ_ALL writes no field of the block; the byte it returns is the mapped level of both groups, an
output pin reading its latch and an input pin the oracle's draw for this sample. -/
def Obligations.ReadAllReturnsTheMappedLevels : Prop :=
  ∀ s, exec .readAll s = .next
    { s with samples := s.samples + 1,
             result :=
              (((s.g1Dir &&& s.g1Out) ||| (~~~s.g1Dir &&& Config.pinInput s.samples .g1)) &&& 0x8F) |||
              ((((s.g2Dir &&& s.g2Out) ||| (~~~s.g2Dir &&& Config.pinInput s.samples .g2)) &&& 0x07) <<< 4) }

/-- R206: SET_INPUT in Input mode and SET_OUTPUT in Output mode change no field. -/
def Obligations.RepeatingSetModeChangesNothing : Prop :=
  ∀ s, PortInv s →
    (s.portMode = .input → exec .setInput s = .next s) ∧ (s.portMode = .output → exec .setOutput s = .next s)

/-- R205: in Output mode read_all after write_all(b) returns b, whatever the input pins do. -/
def Obligations.ReadAllAfterWriteAllReturnsTheByte : Prop :=
  ∀ s b, PortInv s → s.portMode = .output →
    ∃ t u, exec (.writeAll b) s = .next t ∧ exec .readAll t = .next u ∧ u.result = b

/-- R208: no instruction of any agent writes a bit of the group registers outside M1 and M2. -/
def Obligations.UnmappedPortBitsAreNeverWritten : Prop :=
  ∀ i s t, exec i s = .next t → SameUnmapped s t

/-- R36, R209, R33: the indicator, the directions and the port mode change only in set_mode. -/
def Obligations.OnlySetModeChangesModeAndIndicator : Prop :=
  ∀ i s t, exec i s = .next t → i ∉ [Instr.setInput, .setOutput, .rdSetInput, .wrSetOutput] →
    t.ind = s.ind ∧ t.portMode = s.portMode ∧ t.g1Dir = s.g1Dir ∧ t.g2Dir = s.g2Dir

/-- R36, R209: no step reads the indicator: changing it changes at most the indicator afterwards. -/
def Obligations.IndicatorIsNeverRead : Prop :=
  ∀ i s t v, exec i s = .next t → ∃ v', exec i { s with ind := v } = .next { t with ind := v' }

/-! ### The sequencer -/

/-- R171, R173, R175, R180, R182, R184, R186, R188, R190: every wait goes on when its condition holds and otherwise
writes nothing; a stop wins over a complete byte, and WR_WAIT_RECV keeps the received byte. -/
def Obligations.WaitsStayOrGoOn : Prop :=
  ∀ s,
    exec .idle s = .next (if s.fStart then { s with phase := .addrSdaIn } else s) ∧
    exec .addrWaitSclLow s = .next (if s.scl then s else { s with phase := .addrBegin }) ∧
    exec .addrWait s = .next
      (if s.fStop then { s with phase := .addrAbort } else if s.fOvf then { s with phase := .addrCompare } else s) ∧
    exec .rdWaitAck s = .next (if s.fOvf then { s with phase := .rdSend } else s) ∧
    exec .rdWaitSend s = .next (if s.fOvf then { s with phase := .rdMack } else s) ∧
    exec .rdWaitMack s = .next (if s.fOvf then { s with phase := .rdRearm } else s) ∧
    exec .wrWaitAck s = .next (if s.fOvf then { s with phase := .wrRecv } else s) ∧
    exec .wrWaitRecv s = .next (if s.fOvf then { s with xfer := s.sr, phase := .wrSack } else s) ∧
    exec .wrWaitSack s = .next (if s.fOvf then { s with phase := .wrRearm } else s)

/-- R172, R174, R176, R178, R179: the other steps of the address phase. -/
def Obligations.AddressPhaseConfiguresTheUnit : Prop :=
  ∀ s,
    let released := s.scl && s.sdaM && !s.sdaS
    exec .addrSdaIn s = .next { s with phase := .addrWaitSclLow, sdaS := true, fStop := s.fStop || released } ∧
    exec .addrBegin s = .next
      { s with phase := .addrWait, suMode := .rx, suLen := .eight, suCnt := 0, fStart := false, fOvf := false,
               fStop := released, sdaS := true } ∧
    exec .addrAbort s = .next
      { s with phase := .idle, suMode := .watch, suCnt := 0, fStart := false, fOvf := false, fStop := released,
               sdaS := true } ∧
    exec .addrReject s = .next
      { s with phase := .idle, suMode := .watch, suCnt := 0, fStart := false, fOvf := false, fStop := released,
               sdaS := true } ∧
    exec .addrAck s = .next
      { s with phase := .dispatch, suMode := .tx, suLen := .one, suCnt := 0, fOvf := false, sr := 0x00,
               sdaS := false, fStart := s.fStart || (s.scl && s.sdaM && s.sdaS) }

/-- R177, R82: the address-match detector, on the shifted byte and on the address rows themselves. -/
def Obligations.AddressMatchDetectorDecides : Prop :=
  ∀ s,
    exec .addrCompare s = .next
      (if s.sr = 0x84 then { s with dir := .write, phase := .addrAck }
       else if s.sr = 0x85 then { s with dir := .read, phase := .addrAck }
       else { s with phase := .addrReject }) ∧
    exec .addrWrite s = .next { s with dir := .write, phase := .addrAck } ∧
    exec .addrRead s = .next { s with dir := .read, phase := .addrAck } ∧
    (∀ a d, WellFormed (.addrOther a d) → exec (.addrOther a d) s = .next { s with phase := .addrReject })

/-- R84, R181, R188: a data byte of a Write is kept in xfer, a data byte of a Read goes out from bit 7. Which step
the row DATA stands for is the model's choice (log 11). -/
def Obligations.DataByteIsKeptOrSent : Prop :=
  ∀ s (b : Byte),
    (s.dir = .write → exec (.data b) s = .next { s with xfer := b, phase := .wrSack }) ∧
    (s.dir = .read → exec (.data b) s = .next
      { s with phase := .rdWaitSend, suMode := .tx, suLen := .eight, suCnt := 0, fOvf := false, sr := b,
               sdaS := b.getLsbD 7, fStart := s.fStart || (s.scl && s.sdaM && s.sdaS && !b.getLsbD 7),
               fStop := s.fStop || (s.scl && s.sdaM && !s.sdaS && b.getLsbD 7) })

/-- R181, R183, R185: the Read exchange sends xfer, reads the acknowledge and re-arms. -/
def Obligations.ReadExchangeSendsAndRearms : Prop :=
  ∀ s,
    let released := s.scl && s.sdaM && !s.sdaS
    exec .rdSend s = .next
      { s with phase := .rdWaitSend, suMode := .tx, suLen := .eight, suCnt := 0, fOvf := false, sr := s.xfer,
               sdaS := s.xfer.getLsbD 7,
               fStart := s.fStart || (s.scl && s.sdaM && s.sdaS && !s.xfer.getLsbD 7),
               fStop := s.fStop || (released && s.xfer.getLsbD 7) } ∧
    exec .rdMack s = .next
      { s with phase := .rdWaitMack, suMode := .rx, suLen := .one, suCnt := 0, fOvf := false, sdaS := true,
               fStop := s.fStop || released } ∧
    exec .rdRearm s = .next
      { s with phase := .idle, suMode := .watch, suCnt := 0, fStart := false, fOvf := false, fStop := released,
               sdaS := true }

/-- R187, R189, R191: the Write exchange receives, acknowledges and re-arms before the pins change. -/
def Obligations.WriteExchangeReceivesAndRearms : Prop :=
  ∀ s,
    let released := s.scl && s.sdaM && !s.sdaS
    exec .wrRecv s = .next
      { s with phase := .wrWaitRecv, suMode := .rx, suLen := .eight, suCnt := 0, fOvf := false, sdaS := true,
               fStop := s.fStop || released } ∧
    exec .wrSack s = .next
      { s with phase := .wrWaitSack, suMode := .tx, suLen := .one, suCnt := 0, fOvf := false, sr := 0x00,
               sdaS := false, fStart := s.fStart || (s.scl && s.sdaM && s.sdaS) } ∧
    exec .wrRearm s = .next
      { s with phase := .wrWrite, suMode := .watch, suCnt := 0, fStart := false, fOvf := false, fStop := released,
               sdaS := true }

/-- R22: a step of the controller keeps the source's state or goes to the next one of its sequence, with the way
back from AddressMatch to Idle. -/
def Obligations.ControllerFollowsTheSourceSequence : Prop :=
  ∀ s t, controllerStep s = .next t →
    busPhase t.phase = busPhase s.phase ∨ busPhaseFollows (busPhase s.phase) (busPhase t.phase) = true

/-- R21, R23, R24: dir is written only by the address match, xfer only by RD_SAMPLE and the received data byte, and
the phase by no master event and no command. -/
def Obligations.SequencerRegistersHaveTheirOwnWriters : Prop :=
  ∀ i s t, exec i s = .next t →
    (t.dir ≠ s.dir → i = .addrCompare ∨ i = .addrWrite ∨ i = .addrRead ∨ ¬ WellFormed i) ∧
    (t.xfer ≠ s.xfer → i = .rdSample ∨ i = .wrWaitRecv ∨ ∃ b, i = .data b ∧ s.dir = .write) ∧
    (formatOf i = .ev2 ∨ formatOf i = .scmd12 ∨ formatOf i = .pcmd12 → t.phase = s.phase)

/-! ### The Poller -/

/-- R221: DISPATCH, code 9, branches on dir and port_mode alone and writes only the phase. -/
def Obligations.DispatchSwitchesLazily : Prop :=
  decode .phase5 9 = .ok .dispatch ∧ ∀ s, exec .dispatch s = .next
    { s with phase :=
      (if s.dir = .read then (if s.portMode = .input then .rdSample else .rdSetInput)
       else (if s.portMode = .output then .wrWaitAck else .wrSetOutput)) }

/-- R222, R224, R225: the port phases issue their command with the transfer byte and go on. -/
def Obligations.PortPhasesIssueTheirCommand : Prop :=
  ∀ s,
    exec .rdSetInput s = .next
      { s with g1Dir := s.g1Dir &&& 0x70, g2Dir := s.g2Dir &&& 0xF8, g1Out := s.g1Out &&& 0x70,
               g2Out := s.g2Out &&& 0xF8, ind := false, portMode := .input, phase := .rdSample } ∧
    exec .wrSetOutput s = .next
      { s with g1Dir := s.g1Dir ||| 0x8F, g2Dir := s.g2Dir ||| 0x07, ind := true, portMode := .output,
               phase := .wrWaitAck } ∧
    exec .wrWrite s = .next
      { s with g1Out := (s.g1Out &&& 0x70) ||| (s.xfer &&& 0x8F),
               g2Out := (s.g2Out &&& 0xF8) ||| ((s.xfer >>> 4) &&& 0x07), phase := .idle }

/-- R223: RD_SAMPLE keeps the byte READ_ALL returns and goes on to the acknowledge wait. -/
def Obligations.ReadSampleKeepsTheSampledByte : Prop :=
  ∀ s, exec .rdSample s = .next
    { s with samples := s.samples + 1, phase := .rdWaitAck,
             xfer :=
              (((s.g1Dir &&& s.g1Out) ||| (~~~s.g1Dir &&& Config.pinInput s.samples .g1)) &&& 0x8F) |||
              ((((s.g2Dir &&& s.g2Out) ||| (~~~s.g2Dir &&& Config.pinInput s.samples .g2)) &&& 0x07) <<< 4) }

/-- R226: in a state of the hardware's own runs the controller changes the port mode exactly in RD_SET_INPUT and
WR_SET_OUTPUT, which DISPATCH reaches only when the direction differs from the mode. -/
def Obligations.ModeSwitchesExactlyWhenTheDirectionDiffers : Prop :=
  ∀ s t, BlockInv s → controllerStep s = .next t →
    (t.portMode ≠ s.portMode ↔ s.phase = .rdSetInput ∨ s.phase = .wrSetOutput) ∧
    (t.portMode ≠ s.portMode → (s.dir = .read ↔ s.portMode = .output)) ∧
    (s.phase = .dispatch →
      ((t.phase = .rdSetInput ∨ t.phase = .wrSetOutput) ↔ (s.dir = .read ↔ s.portMode = .output)))

/-! ### Invariants -/

/-- R275, R42: a launch, with any draws and any interleaving of the hardware's own agents, meets the three
invariants; the model's reset state is a launch. -/
def Obligations.LaunchMeetsTheInvariants : Prop :=
  (∀ s, Launch s → BlockInv s ∧ ShiftInv s ∧ TimelyInv s) ∧ Launch State.reset

/-- R37 with R207: the port invariant, and WRITE_ALL being issued in Output mode only, are kept by every step of the
hardware's own agents, whatever MASTER_WAITS is. -/
def Obligations.EveryStepKeepsThePortInvariant : Prop :=
  (∀ mw s t, BlockInv s → stepWith mw s = .next t → BlockInv t) ∧
  (∀ s t, BlockInv s → step s = .next t → BlockInv t)

/-- R118, R119: the counter invariant is kept by every step of every agent, a handed word included. -/
def Obligations.EveryStepKeepsTheCounterInvariant : Prop :=
  (∀ mw s t, ShiftInv s → stepWith mw s = .next t → ShiftInv t) ∧
  (∀ s t, ShiftInv s → step s = .next t → ShiftInv t)

/-- R121, R280: with MASTER_WAITS true, what each phase knows of SCL and of the slave's drive is kept by every step
of the hardware's own agents. -/
def Obligations.EveryTimelyStepKeepsThePhaseKnowledge : Prop :=
  ∀ s t, TimelyInv s → stepWith true s = .next t → TimelyInv t

/-- R121 (a): in the states of those runs a controller step changes sda_s only while SCL is low, so the block never
makes a start or a stop condition itself. -/
def Obligations.TimelyControllerMovesSdaOnlyUnderLowScl : Prop :=
  ∀ s t, TimelyInv s → controllerStep s = .next t →
    (t.sdaS ≠ s.sdaS → s.scl = false) ∧
    ¬ (s.scl = true ∧ t.scl = true ∧ (s.sdaM && s.sdaS) ≠ (t.sdaM && t.sdaS))

/-! ### Whole transactions -/

/-- R63, R121 (b): eight clocked bits W8 b after BEGIN_ADDR or RECV_BYTE leave sr = b, first bit in bit 7, with
overflow raised, no start or stop made and nothing else of the block moved. -/
def Obligations.ReceiverAssemblesTheByteMsbFirst : Prop :=
  ∀ s (b : Byte), s.scl = false → s.suMode = .rx → s.suLen = .eight → s.suCnt = 0 → s.fOvf = false → s.sdaS = true →
    runInstrs ((tokenEvents { scl := s.scl, sdaM := s.sdaM } (.write8 b)).map eventInstr) s =
      .next { s with sr := b, suCnt := 8, fOvf := true, sdaM := b.getLsbD 0 }

/-- R146, R63: after SEND_BYTE(v) the master that clocks eight bits with SDA released reads v, bit 7 first, and the
unit ends with sr = v, overflow raised and bit 0 still presented. -/
def Obligations.SenderPresentsTheByteMsbFirst : Prop :=
  ∀ s (v : Byte), s.scl = false →
    ∃ t, exec (.sendByte v) s = .next t ∧
      levelsRead (tokenEvents { scl := t.scl, sdaM := t.sdaM } .read8) t =
        [v.getLsbD 7, v.getLsbD 6, v.getLsbD 5, v.getLsbD 4, v.getLsbD 3, v.getLsbD 2, v.getLsbD 1, v.getLsbD 0] ∧
      runInstrs ((tokenEvents { scl := t.scl, sdaM := t.sdaM } .read8).map eventInstr) t =
        .next { t with sr := v, suCnt := 8, fOvf := true, sdaS := v.getLsbD 0, sdaM := true }

/-- R242: a mismatched address byte leads in two controller steps to IDLE and WATCH with SDA released and the flags
cleared, and no port register, dir or xfer has changed. -/
def Obligations.MismatchedAddressLeavesNoTrace : Prop :=
  ∀ s, s.phase = .addrCompare → s.sr ≠ 0x84 → s.sr ≠ 0x85 → s.scl = false →
    controllerRun 2 s = .next
      { s with phase := .idle, suMode := .watch, suCnt := 0, fStart := false, fOvf := false, fStop := false,
               sdaS := true }

/-- R243, R175, R250: a stop latched in ADDR_WAIT, even beside a complete byte, leads in two controller steps to IDLE
and WATCH; no port register, dir or xfer changes, and the partial byte stays in sr. -/
def Obligations.StopInTheAddressByteAbandonsTheTransaction : Prop :=
  ∀ s, s.phase = .addrWait → s.fStop = true → s.sdaS = true →
    controllerRun 2 s = .next
      { s with phase := .idle, suMode := .watch, suCnt := 0, fStart := false, fOvf := false, fStop := false }

/-- R245, R184: the master's acknowledge after a Read is never acted upon: whatever sr holds in RD_WAIT_MACK, the
next two controller steps are the same but for sr. -/
def Obligations.MasterAcknowledgeIsNotActedUpon : Prop :=
  ∀ s t v k, s.phase = .rdWaitMack → k ≤ 2 → controllerRun k s = .next t →
    controllerRun k { s with sr := v } = .next { t with sr := v }

/-- R281: DISPATCH, RD_SET_INPUT, RD_SAMPLE and WR_SET_OUTPUT commute with every master event, so a Read sends the
same byte under every interleaving with the acknowledge pulse. -/
def Obligations.PortStepsCommuteWithBusEvents : Prop :=
  ∀ e s t, s.phase = .dispatch ∨ s.phase = .rdSetInput ∨ s.phase = .rdSample ∨ s.phase = .wrSetOutput →
    exec (eventInstr e) s = .next t →
    ∃ u v, controllerStep t = .next u ∧ controllerStep s = .next v ∧ exec (eventInstr e) v = .next u

/-- R97, R98: a token whose precondition holds expands to events each of which is enabled when its turn comes, and
leaves SCL low, but for P, which leaves the bus idle, and CTL, which makes no event; S needs an idle bus, CTL nothing,
and every other token SCL low. -/
def Obligations.ScriptTokensExpandToEnabledEvents : Prop :=
  ∀ (m : MasterLines) (k : Token),
    (tokenEnabled m k = true ↔ (match k with | .start => m.scl = true ∧ m.sdaM = true | .ctl => True | _ => m.scl = false)) ∧
    (tokenEnabled m k = true →
      afterEvents m (tokenEvents m k) = some (afterToken m k) ∧
      (k = .ctl → tokenEvents m k = []) ∧
      (k = .stop → afterToken m k = { scl := true, sdaM := true }) ∧
      (k ≠ .stop → k ≠ .ctl → (afterToken m k).scl = false))

/-! ### The counter's range, completion of the events, whole scripts -/

/-- R28: a su_cnt above 8 is refused (93_implementation_defined.md section 1): by the step in a state that holds one,
and by the falling edge that would count to one; and no instruction leaves one. That the step rather than some other
place refuses it is the model's choice (log 17). -/
def Obligations.CounterAboveEightIsRefused : Prop :=
  (∀ mw s, 8 < s.suCnt → stepWith mw s = .refused .counterAboveEight) ∧
  (∀ s, s.scl = true → s.suMode ≠ .watch → s.fOvf = false → 8 ≤ s.suCnt →
    exec .mScl0 s = .refused .counterAboveEight) ∧
  (∀ i s t, s.suCnt ≤ 8 → exec i s = .next t → t.suCnt ≤ 8)

/-- R110: each of the four events completes in every state whose line has the other level (and, for M_SCL0, whose count
has room, R28), moving its own line to the new level and not the other line. -/
def Obligations.EventsCompleteWhereEnabled : Prop :=
  ∀ s,
    (s.scl = false → ∃ t, exec .mScl1 s = .next t ∧ t.scl = true ∧ t.sdaM = s.sdaM) ∧
    (s.scl = true → (s.suMode ≠ .watch → s.fOvf = false → s.suCnt < 8) →
      ∃ t, exec .mScl0 s = .next t ∧ t.scl = false ∧ t.sdaM = s.sdaM) ∧
    (s.sdaM = true → ∃ t, exec .mSda0 s = .next t ∧ t.sdaM = false ∧ t.scl = s.scl) ∧
    (s.sdaM = false → ∃ t, exec .mSda1 s = .next t ∧ t.sdaM = true ∧ t.scl = s.scl)

/-- R98, R99: on an idle bus with nothing to come every well-formed script of one transaction loads, whatever controller
turns a schedule puts between its events; the turns are the hardware's own, and a script that ends in P leaves the bus
idle. loadScript is the empty schedule, the model's choice (log 26). -/
def Obligations.WellFormedTransactionLoads : Prop :=
  (∀ script s, loadScript script s = loadScheduled [] script s) ∧
  (∀ schedule script s, TransactionScript script → s.agenda = [] → s.scl = true → s.sdaM = true →
    ∃ turns, loadScheduled schedule script s = .next { s with agenda := turns } ∧
      turns.all hardwareTurn = true ∧
      (script.getLast? = some .stop → turns.foldl afterTurn { scl := true, sdaM := true } = { scl := true, sdaM := true }))
end

