-- ==== Sys2Proof/Laws/Decode.lean ====
section
/-! SUPPORT. What the decoder makes of the controller's own word, and what its parts can answer. -/

namespace Sys2Proof

/-- A command without operand decodes to itself and only on a zero operand byte (R92). -/
theorem withoutOperand_ok_iff {f : Format} {w : CodeWord} {i j : Instr} :
    withoutOperand f w i = .ok j ↔ commandOperand w = 0 ∧ j = i := by
  unfold withoutOperand
  split <;> simp_all [eq_comm]

/-- A word too wide for its format is refused. -/
theorem decode_of_wide {f : Format} {w : CodeWord} (h : ¬ w.toNat < 2 ^ f.width) :
    decode f w = .error (.tooWide f w) := by
  simp [decode, h]

/-- The code in the phase register always decodes to that phase (R95). -/
@[simp] theorem decode_phaseCode (p : Machine.Phase) :
    decode .phase5 (Machine.phaseCode p) = .ok (Machine.phaseInstr p) := by
  cases p <;> rfl

/-- The code of a master event always decodes (R94). -/
theorem decode_eventCode :
    decode .ev2 (Machine.eventCode .scl0) = .ok .mScl0 ∧ decode .ev2 (Machine.eventCode .scl1) = .ok .mScl1 ∧
    decode .ev2 (Machine.eventCode .sda0) = .ok .mSda0 ∧ decode .ev2 (Machine.eventCode .sda1) = .ok .mSda1 := by
  decide

/-- An ev2 word that decodes is one of the four events (R94). -/
theorem decode_ev2_cases {w : CodeWord} {i : Instr} (h : decode .ev2 w = .ok i) :
    i = .mScl0 ∨ i = .mScl1 ∨ i = .mSda0 ∨ i = .mSda1 := by
  unfold decode at h
  split at h
  · simp only [Except.ok.injEq] at h
    subst h
    unfold decodeEvent
    split <;> simp
  · cases h

end Sys2Proof
end

