-- ==== Sys2Proof/Laws/State.lean ====
section
/-! SUPPORT. One lemma per field per update of the state, each true by rfl, so that no later proof unfolds a record
update; then the fields a conditional operation leaves alone. -/

namespace Sys2Proof.Machine

/-! ### detect -/

@[simp] theorem detect_phase (s t : State) : (detect s t).phase = t.phase := rfl
@[simp] theorem detect_dir (s t : State) : (detect s t).dir = t.dir := rfl
@[simp] theorem detect_xfer (s t : State) : (detect s t).xfer = t.xfer := rfl
@[simp] theorem detect_sr (s t : State) : (detect s t).sr = t.sr := rfl
@[simp] theorem detect_suMode (s t : State) : (detect s t).suMode = t.suMode := rfl
@[simp] theorem detect_suLen (s t : State) : (detect s t).suLen = t.suLen := rfl
@[simp] theorem detect_suCnt (s t : State) : (detect s t).suCnt = t.suCnt := rfl
@[simp] theorem detect_fStart (s t : State) : (detect s t).fStart = (t.fStart || startSeen s t) := rfl
@[simp] theorem detect_fOvf (s t : State) : (detect s t).fOvf = t.fOvf := rfl
@[simp] theorem detect_fStop (s t : State) : (detect s t).fStop = (t.fStop || stopSeen s t) := rfl
@[simp] theorem detect_sdaS (s t : State) : (detect s t).sdaS = t.sdaS := rfl
@[simp] theorem detect_portMode (s t : State) : (detect s t).portMode = t.portMode := rfl
@[simp] theorem detect_g1Dir (s t : State) : (detect s t).g1Dir = t.g1Dir := rfl
@[simp] theorem detect_g1Out (s t : State) : (detect s t).g1Out = t.g1Out := rfl
@[simp] theorem detect_g2Dir (s t : State) : (detect s t).g2Dir = t.g2Dir := rfl
@[simp] theorem detect_g2Out (s t : State) : (detect s t).g2Out = t.g2Out := rfl
@[simp] theorem detect_ind (s t : State) : (detect s t).ind = t.ind := rfl
@[simp] theorem detect_scl (s t : State) : (detect s t).scl = t.scl := rfl
@[simp] theorem detect_sdaM (s t : State) : (detect s t).sdaM = t.sdaM := rfl
@[simp] theorem detect_samples (s t : State) : (detect s t).samples = t.samples := rfl
@[simp] theorem detect_result (s t : State) : (detect s t).result = t.result := rfl
@[simp] theorem detect_agenda (s t : State) : (detect s t).agenda = t.agenda := rfl

/-! ### gotoPhase -/

@[simp] theorem gotoPhase_phase (p : Phase) (s : State) : (gotoPhase p s).phase = p := rfl
@[simp] theorem gotoPhase_dir (p : Phase) (s : State) : (gotoPhase p s).dir = s.dir := rfl
@[simp] theorem gotoPhase_xfer (p : Phase) (s : State) : (gotoPhase p s).xfer = s.xfer := rfl
@[simp] theorem gotoPhase_sr (p : Phase) (s : State) : (gotoPhase p s).sr = s.sr := rfl
@[simp] theorem gotoPhase_suMode (p : Phase) (s : State) : (gotoPhase p s).suMode = s.suMode := rfl
@[simp] theorem gotoPhase_suLen (p : Phase) (s : State) : (gotoPhase p s).suLen = s.suLen := rfl
@[simp] theorem gotoPhase_suCnt (p : Phase) (s : State) : (gotoPhase p s).suCnt = s.suCnt := rfl
@[simp] theorem gotoPhase_fStart (p : Phase) (s : State) : (gotoPhase p s).fStart = s.fStart := rfl
@[simp] theorem gotoPhase_fOvf (p : Phase) (s : State) : (gotoPhase p s).fOvf = s.fOvf := rfl
@[simp] theorem gotoPhase_fStop (p : Phase) (s : State) : (gotoPhase p s).fStop = s.fStop := rfl
@[simp] theorem gotoPhase_sdaS (p : Phase) (s : State) : (gotoPhase p s).sdaS = s.sdaS := rfl
@[simp] theorem gotoPhase_portMode (p : Phase) (s : State) : (gotoPhase p s).portMode = s.portMode := rfl
@[simp] theorem gotoPhase_g1Dir (p : Phase) (s : State) : (gotoPhase p s).g1Dir = s.g1Dir := rfl
@[simp] theorem gotoPhase_g1Out (p : Phase) (s : State) : (gotoPhase p s).g1Out = s.g1Out := rfl
@[simp] theorem gotoPhase_g2Dir (p : Phase) (s : State) : (gotoPhase p s).g2Dir = s.g2Dir := rfl
@[simp] theorem gotoPhase_g2Out (p : Phase) (s : State) : (gotoPhase p s).g2Out = s.g2Out := rfl
@[simp] theorem gotoPhase_ind (p : Phase) (s : State) : (gotoPhase p s).ind = s.ind := rfl
@[simp] theorem gotoPhase_scl (p : Phase) (s : State) : (gotoPhase p s).scl = s.scl := rfl
@[simp] theorem gotoPhase_sdaM (p : Phase) (s : State) : (gotoPhase p s).sdaM = s.sdaM := rfl
@[simp] theorem gotoPhase_samples (p : Phase) (s : State) : (gotoPhase p s).samples = s.samples := rfl
@[simp] theorem gotoPhase_result (p : Phase) (s : State) : (gotoPhase p s).result = s.result := rfl
@[simp] theorem gotoPhase_agenda (p : Phase) (s : State) : (gotoPhase p s).agenda = s.agenda := rfl

/-! ### setScl -/

@[simp] theorem setScl_phase (v : Bool) (s : State) : (setScl v s).phase = s.phase := rfl
@[simp] theorem setScl_dir (v : Bool) (s : State) : (setScl v s).dir = s.dir := rfl
@[simp] theorem setScl_xfer (v : Bool) (s : State) : (setScl v s).xfer = s.xfer := rfl
@[simp] theorem setScl_sr (v : Bool) (s : State) : (setScl v s).sr = s.sr := rfl
@[simp] theorem setScl_suMode (v : Bool) (s : State) : (setScl v s).suMode = s.suMode := rfl
@[simp] theorem setScl_suLen (v : Bool) (s : State) : (setScl v s).suLen = s.suLen := rfl
@[simp] theorem setScl_suCnt (v : Bool) (s : State) : (setScl v s).suCnt = s.suCnt := rfl
@[simp] theorem setScl_fStart (v : Bool) (s : State) : (setScl v s).fStart = s.fStart := rfl
@[simp] theorem setScl_fOvf (v : Bool) (s : State) : (setScl v s).fOvf = s.fOvf := rfl
@[simp] theorem setScl_fStop (v : Bool) (s : State) : (setScl v s).fStop = s.fStop := rfl
@[simp] theorem setScl_sdaS (v : Bool) (s : State) : (setScl v s).sdaS = s.sdaS := rfl
@[simp] theorem setScl_portMode (v : Bool) (s : State) : (setScl v s).portMode = s.portMode := rfl
@[simp] theorem setScl_g1Dir (v : Bool) (s : State) : (setScl v s).g1Dir = s.g1Dir := rfl
@[simp] theorem setScl_g1Out (v : Bool) (s : State) : (setScl v s).g1Out = s.g1Out := rfl
@[simp] theorem setScl_g2Dir (v : Bool) (s : State) : (setScl v s).g2Dir = s.g2Dir := rfl
@[simp] theorem setScl_g2Out (v : Bool) (s : State) : (setScl v s).g2Out = s.g2Out := rfl
@[simp] theorem setScl_ind (v : Bool) (s : State) : (setScl v s).ind = s.ind := rfl
@[simp] theorem setScl_scl (v : Bool) (s : State) : (setScl v s).scl = v := rfl
@[simp] theorem setScl_sdaM (v : Bool) (s : State) : (setScl v s).sdaM = s.sdaM := rfl
@[simp] theorem setScl_samples (v : Bool) (s : State) : (setScl v s).samples = s.samples := rfl
@[simp] theorem setScl_result (v : Bool) (s : State) : (setScl v s).result = s.result := rfl
@[simp] theorem setScl_agenda (v : Bool) (s : State) : (setScl v s).agenda = s.agenda := rfl

/-! ### setSdaM -/

@[simp] theorem setSdaM_phase (v : Bool) (s : State) : (setSdaM v s).phase = s.phase := rfl
@[simp] theorem setSdaM_dir (v : Bool) (s : State) : (setSdaM v s).dir = s.dir := rfl
@[simp] theorem setSdaM_xfer (v : Bool) (s : State) : (setSdaM v s).xfer = s.xfer := rfl
@[simp] theorem setSdaM_sr (v : Bool) (s : State) : (setSdaM v s).sr = s.sr := rfl
@[simp] theorem setSdaM_suMode (v : Bool) (s : State) : (setSdaM v s).suMode = s.suMode := rfl
@[simp] theorem setSdaM_suLen (v : Bool) (s : State) : (setSdaM v s).suLen = s.suLen := rfl
@[simp] theorem setSdaM_suCnt (v : Bool) (s : State) : (setSdaM v s).suCnt = s.suCnt := rfl
@[simp] theorem setSdaM_fStart (v : Bool) (s : State) : (setSdaM v s).fStart = s.fStart := rfl
@[simp] theorem setSdaM_fOvf (v : Bool) (s : State) : (setSdaM v s).fOvf = s.fOvf := rfl
@[simp] theorem setSdaM_fStop (v : Bool) (s : State) : (setSdaM v s).fStop = s.fStop := rfl
@[simp] theorem setSdaM_sdaS (v : Bool) (s : State) : (setSdaM v s).sdaS = s.sdaS := rfl
@[simp] theorem setSdaM_portMode (v : Bool) (s : State) : (setSdaM v s).portMode = s.portMode := rfl
@[simp] theorem setSdaM_g1Dir (v : Bool) (s : State) : (setSdaM v s).g1Dir = s.g1Dir := rfl
@[simp] theorem setSdaM_g1Out (v : Bool) (s : State) : (setSdaM v s).g1Out = s.g1Out := rfl
@[simp] theorem setSdaM_g2Dir (v : Bool) (s : State) : (setSdaM v s).g2Dir = s.g2Dir := rfl
@[simp] theorem setSdaM_g2Out (v : Bool) (s : State) : (setSdaM v s).g2Out = s.g2Out := rfl
@[simp] theorem setSdaM_ind (v : Bool) (s : State) : (setSdaM v s).ind = s.ind := rfl
@[simp] theorem setSdaM_scl (v : Bool) (s : State) : (setSdaM v s).scl = s.scl := rfl
@[simp] theorem setSdaM_sdaM (v : Bool) (s : State) : (setSdaM v s).sdaM = v := rfl
@[simp] theorem setSdaM_samples (v : Bool) (s : State) : (setSdaM v s).samples = s.samples := rfl
@[simp] theorem setSdaM_result (v : Bool) (s : State) : (setSdaM v s).result = s.result := rfl
@[simp] theorem setSdaM_agenda (v : Bool) (s : State) : (setSdaM v s).agenda = s.agenda := rfl

/-! ### arm -/

@[simp] theorem arm_phase (s : State) : (arm s).phase = s.phase := rfl
@[simp] theorem arm_dir (s : State) : (arm s).dir = s.dir := rfl
@[simp] theorem arm_xfer (s : State) : (arm s).xfer = s.xfer := rfl
@[simp] theorem arm_sr (s : State) : (arm s).sr = s.sr := rfl
@[simp] theorem arm_suMode (s : State) : (arm s).suMode = .watch := rfl
@[simp] theorem arm_suLen (s : State) : (arm s).suLen = s.suLen := rfl
@[simp] theorem arm_suCnt (s : State) : (arm s).suCnt = 0 := rfl
@[simp] theorem arm_fStart (s : State) : (arm s).fStart = false := rfl
@[simp] theorem arm_fOvf (s : State) : (arm s).fOvf = false := rfl
@[simp] theorem arm_fStop (s : State) : (arm s).fStop = false := rfl
@[simp] theorem arm_sdaS (s : State) : (arm s).sdaS = true := rfl
@[simp] theorem arm_portMode (s : State) : (arm s).portMode = s.portMode := rfl
@[simp] theorem arm_g1Dir (s : State) : (arm s).g1Dir = s.g1Dir := rfl
@[simp] theorem arm_g1Out (s : State) : (arm s).g1Out = s.g1Out := rfl
@[simp] theorem arm_g2Dir (s : State) : (arm s).g2Dir = s.g2Dir := rfl
@[simp] theorem arm_g2Out (s : State) : (arm s).g2Out = s.g2Out := rfl
@[simp] theorem arm_ind (s : State) : (arm s).ind = s.ind := rfl
@[simp] theorem arm_scl (s : State) : (arm s).scl = s.scl := rfl
@[simp] theorem arm_sdaM (s : State) : (arm s).sdaM = s.sdaM := rfl
@[simp] theorem arm_samples (s : State) : (arm s).samples = s.samples := rfl
@[simp] theorem arm_result (s : State) : (arm s).result = s.result := rfl
@[simp] theorem arm_agenda (s : State) : (arm s).agenda = s.agenda := rfl

/-! ### beginAddr -/

@[simp] theorem beginAddr_phase (s : State) : (beginAddr s).phase = s.phase := rfl
@[simp] theorem beginAddr_dir (s : State) : (beginAddr s).dir = s.dir := rfl
@[simp] theorem beginAddr_xfer (s : State) : (beginAddr s).xfer = s.xfer := rfl
@[simp] theorem beginAddr_sr (s : State) : (beginAddr s).sr = s.sr := rfl
@[simp] theorem beginAddr_suMode (s : State) : (beginAddr s).suMode = .rx := rfl
@[simp] theorem beginAddr_suLen (s : State) : (beginAddr s).suLen = .eight := rfl
@[simp] theorem beginAddr_suCnt (s : State) : (beginAddr s).suCnt = 0 := rfl
@[simp] theorem beginAddr_fStart (s : State) : (beginAddr s).fStart = false := rfl
@[simp] theorem beginAddr_fOvf (s : State) : (beginAddr s).fOvf = false := rfl
@[simp] theorem beginAddr_fStop (s : State) : (beginAddr s).fStop = false := rfl
@[simp] theorem beginAddr_sdaS (s : State) : (beginAddr s).sdaS = true := rfl
@[simp] theorem beginAddr_portMode (s : State) : (beginAddr s).portMode = s.portMode := rfl
@[simp] theorem beginAddr_g1Dir (s : State) : (beginAddr s).g1Dir = s.g1Dir := rfl
@[simp] theorem beginAddr_g1Out (s : State) : (beginAddr s).g1Out = s.g1Out := rfl
@[simp] theorem beginAddr_g2Dir (s : State) : (beginAddr s).g2Dir = s.g2Dir := rfl
@[simp] theorem beginAddr_g2Out (s : State) : (beginAddr s).g2Out = s.g2Out := rfl
@[simp] theorem beginAddr_ind (s : State) : (beginAddr s).ind = s.ind := rfl
@[simp] theorem beginAddr_scl (s : State) : (beginAddr s).scl = s.scl := rfl
@[simp] theorem beginAddr_sdaM (s : State) : (beginAddr s).sdaM = s.sdaM := rfl
@[simp] theorem beginAddr_samples (s : State) : (beginAddr s).samples = s.samples := rfl
@[simp] theorem beginAddr_result (s : State) : (beginAddr s).result = s.result := rfl
@[simp] theorem beginAddr_agenda (s : State) : (beginAddr s).agenda = s.agenda := rfl

/-! ### sdaIn -/

@[simp] theorem sdaIn_phase (s : State) : (sdaIn s).phase = s.phase := rfl
@[simp] theorem sdaIn_dir (s : State) : (sdaIn s).dir = s.dir := rfl
@[simp] theorem sdaIn_xfer (s : State) : (sdaIn s).xfer = s.xfer := rfl
@[simp] theorem sdaIn_sr (s : State) : (sdaIn s).sr = s.sr := rfl
@[simp] theorem sdaIn_suMode (s : State) : (sdaIn s).suMode = s.suMode := rfl
@[simp] theorem sdaIn_suLen (s : State) : (sdaIn s).suLen = s.suLen := rfl
@[simp] theorem sdaIn_suCnt (s : State) : (sdaIn s).suCnt = s.suCnt := rfl
@[simp] theorem sdaIn_fStart (s : State) : (sdaIn s).fStart = s.fStart := rfl
@[simp] theorem sdaIn_fOvf (s : State) : (sdaIn s).fOvf = s.fOvf := rfl
@[simp] theorem sdaIn_fStop (s : State) : (sdaIn s).fStop = s.fStop := rfl
@[simp] theorem sdaIn_sdaS (s : State) : (sdaIn s).sdaS = true := rfl
@[simp] theorem sdaIn_portMode (s : State) : (sdaIn s).portMode = s.portMode := rfl
@[simp] theorem sdaIn_g1Dir (s : State) : (sdaIn s).g1Dir = s.g1Dir := rfl
@[simp] theorem sdaIn_g1Out (s : State) : (sdaIn s).g1Out = s.g1Out := rfl
@[simp] theorem sdaIn_g2Dir (s : State) : (sdaIn s).g2Dir = s.g2Dir := rfl
@[simp] theorem sdaIn_g2Out (s : State) : (sdaIn s).g2Out = s.g2Out := rfl
@[simp] theorem sdaIn_ind (s : State) : (sdaIn s).ind = s.ind := rfl
@[simp] theorem sdaIn_scl (s : State) : (sdaIn s).scl = s.scl := rfl
@[simp] theorem sdaIn_sdaM (s : State) : (sdaIn s).sdaM = s.sdaM := rfl
@[simp] theorem sdaIn_samples (s : State) : (sdaIn s).samples = s.samples := rfl
@[simp] theorem sdaIn_result (s : State) : (sdaIn s).result = s.result := rfl
@[simp] theorem sdaIn_agenda (s : State) : (sdaIn s).agenda = s.agenda := rfl

/-! ### sendAck -/

@[simp] theorem sendAck_phase (s : State) : (sendAck s).phase = s.phase := rfl
@[simp] theorem sendAck_dir (s : State) : (sendAck s).dir = s.dir := rfl
@[simp] theorem sendAck_xfer (s : State) : (sendAck s).xfer = s.xfer := rfl
@[simp] theorem sendAck_sr (s : State) : (sendAck s).sr = 0 := rfl
@[simp] theorem sendAck_suMode (s : State) : (sendAck s).suMode = .tx := rfl
@[simp] theorem sendAck_suLen (s : State) : (sendAck s).suLen = .one := rfl
@[simp] theorem sendAck_suCnt (s : State) : (sendAck s).suCnt = 0 := rfl
@[simp] theorem sendAck_fStart (s : State) : (sendAck s).fStart = s.fStart := rfl
@[simp] theorem sendAck_fOvf (s : State) : (sendAck s).fOvf = false := rfl
@[simp] theorem sendAck_fStop (s : State) : (sendAck s).fStop = s.fStop := rfl
@[simp] theorem sendAck_sdaS (s : State) : (sendAck s).sdaS = false := rfl
@[simp] theorem sendAck_portMode (s : State) : (sendAck s).portMode = s.portMode := rfl
@[simp] theorem sendAck_g1Dir (s : State) : (sendAck s).g1Dir = s.g1Dir := rfl
@[simp] theorem sendAck_g1Out (s : State) : (sendAck s).g1Out = s.g1Out := rfl
@[simp] theorem sendAck_g2Dir (s : State) : (sendAck s).g2Dir = s.g2Dir := rfl
@[simp] theorem sendAck_g2Out (s : State) : (sendAck s).g2Out = s.g2Out := rfl
@[simp] theorem sendAck_ind (s : State) : (sendAck s).ind = s.ind := rfl
@[simp] theorem sendAck_scl (s : State) : (sendAck s).scl = s.scl := rfl
@[simp] theorem sendAck_sdaM (s : State) : (sendAck s).sdaM = s.sdaM := rfl
@[simp] theorem sendAck_samples (s : State) : (sendAck s).samples = s.samples := rfl
@[simp] theorem sendAck_result (s : State) : (sendAck s).result = s.result := rfl
@[simp] theorem sendAck_agenda (s : State) : (sendAck s).agenda = s.agenda := rfl

/-! ### readAck -/

@[simp] theorem readAck_phase (s : State) : (readAck s).phase = s.phase := rfl
@[simp] theorem readAck_dir (s : State) : (readAck s).dir = s.dir := rfl
@[simp] theorem readAck_xfer (s : State) : (readAck s).xfer = s.xfer := rfl
@[simp] theorem readAck_sr (s : State) : (readAck s).sr = s.sr := rfl
@[simp] theorem readAck_suMode (s : State) : (readAck s).suMode = .rx := rfl
@[simp] theorem readAck_suLen (s : State) : (readAck s).suLen = .one := rfl
@[simp] theorem readAck_suCnt (s : State) : (readAck s).suCnt = 0 := rfl
@[simp] theorem readAck_fStart (s : State) : (readAck s).fStart = s.fStart := rfl
@[simp] theorem readAck_fOvf (s : State) : (readAck s).fOvf = false := rfl
@[simp] theorem readAck_fStop (s : State) : (readAck s).fStop = s.fStop := rfl
@[simp] theorem readAck_sdaS (s : State) : (readAck s).sdaS = true := rfl
@[simp] theorem readAck_portMode (s : State) : (readAck s).portMode = s.portMode := rfl
@[simp] theorem readAck_g1Dir (s : State) : (readAck s).g1Dir = s.g1Dir := rfl
@[simp] theorem readAck_g1Out (s : State) : (readAck s).g1Out = s.g1Out := rfl
@[simp] theorem readAck_g2Dir (s : State) : (readAck s).g2Dir = s.g2Dir := rfl
@[simp] theorem readAck_g2Out (s : State) : (readAck s).g2Out = s.g2Out := rfl
@[simp] theorem readAck_ind (s : State) : (readAck s).ind = s.ind := rfl
@[simp] theorem readAck_scl (s : State) : (readAck s).scl = s.scl := rfl
@[simp] theorem readAck_sdaM (s : State) : (readAck s).sdaM = s.sdaM := rfl
@[simp] theorem readAck_samples (s : State) : (readAck s).samples = s.samples := rfl
@[simp] theorem readAck_result (s : State) : (readAck s).result = s.result := rfl
@[simp] theorem readAck_agenda (s : State) : (readAck s).agenda = s.agenda := rfl

/-! ### sendByte -/

@[simp] theorem sendByte_phase (v : Byte) (s : State) : (sendByte v s).phase = s.phase := rfl
@[simp] theorem sendByte_dir (v : Byte) (s : State) : (sendByte v s).dir = s.dir := rfl
@[simp] theorem sendByte_xfer (v : Byte) (s : State) : (sendByte v s).xfer = s.xfer := rfl
@[simp] theorem sendByte_sr (v : Byte) (s : State) : (sendByte v s).sr = v := rfl
@[simp] theorem sendByte_suMode (v : Byte) (s : State) : (sendByte v s).suMode = .tx := rfl
@[simp] theorem sendByte_suLen (v : Byte) (s : State) : (sendByte v s).suLen = .eight := rfl
@[simp] theorem sendByte_suCnt (v : Byte) (s : State) : (sendByte v s).suCnt = 0 := rfl
@[simp] theorem sendByte_fStart (v : Byte) (s : State) : (sendByte v s).fStart = s.fStart := rfl
@[simp] theorem sendByte_fOvf (v : Byte) (s : State) : (sendByte v s).fOvf = false := rfl
@[simp] theorem sendByte_fStop (v : Byte) (s : State) : (sendByte v s).fStop = s.fStop := rfl
@[simp] theorem sendByte_sdaS (v : Byte) (s : State) : (sendByte v s).sdaS = topBit v := rfl
@[simp] theorem sendByte_portMode (v : Byte) (s : State) : (sendByte v s).portMode = s.portMode := rfl
@[simp] theorem sendByte_g1Dir (v : Byte) (s : State) : (sendByte v s).g1Dir = s.g1Dir := rfl
@[simp] theorem sendByte_g1Out (v : Byte) (s : State) : (sendByte v s).g1Out = s.g1Out := rfl
@[simp] theorem sendByte_g2Dir (v : Byte) (s : State) : (sendByte v s).g2Dir = s.g2Dir := rfl
@[simp] theorem sendByte_g2Out (v : Byte) (s : State) : (sendByte v s).g2Out = s.g2Out := rfl
@[simp] theorem sendByte_ind (v : Byte) (s : State) : (sendByte v s).ind = s.ind := rfl
@[simp] theorem sendByte_scl (v : Byte) (s : State) : (sendByte v s).scl = s.scl := rfl
@[simp] theorem sendByte_sdaM (v : Byte) (s : State) : (sendByte v s).sdaM = s.sdaM := rfl
@[simp] theorem sendByte_samples (v : Byte) (s : State) : (sendByte v s).samples = s.samples := rfl
@[simp] theorem sendByte_result (v : Byte) (s : State) : (sendByte v s).result = s.result := rfl
@[simp] theorem sendByte_agenda (v : Byte) (s : State) : (sendByte v s).agenda = s.agenda := rfl

/-! ### recvByte -/

@[simp] theorem recvByte_phase (s : State) : (recvByte s).phase = s.phase := rfl
@[simp] theorem recvByte_dir (s : State) : (recvByte s).dir = s.dir := rfl
@[simp] theorem recvByte_xfer (s : State) : (recvByte s).xfer = s.xfer := rfl
@[simp] theorem recvByte_sr (s : State) : (recvByte s).sr = s.sr := rfl
@[simp] theorem recvByte_suMode (s : State) : (recvByte s).suMode = .rx := rfl
@[simp] theorem recvByte_suLen (s : State) : (recvByte s).suLen = .eight := rfl
@[simp] theorem recvByte_suCnt (s : State) : (recvByte s).suCnt = 0 := rfl
@[simp] theorem recvByte_fStart (s : State) : (recvByte s).fStart = s.fStart := rfl
@[simp] theorem recvByte_fOvf (s : State) : (recvByte s).fOvf = false := rfl
@[simp] theorem recvByte_fStop (s : State) : (recvByte s).fStop = s.fStop := rfl
@[simp] theorem recvByte_sdaS (s : State) : (recvByte s).sdaS = true := rfl
@[simp] theorem recvByte_portMode (s : State) : (recvByte s).portMode = s.portMode := rfl
@[simp] theorem recvByte_g1Dir (s : State) : (recvByte s).g1Dir = s.g1Dir := rfl
@[simp] theorem recvByte_g1Out (s : State) : (recvByte s).g1Out = s.g1Out := rfl
@[simp] theorem recvByte_g2Dir (s : State) : (recvByte s).g2Dir = s.g2Dir := rfl
@[simp] theorem recvByte_g2Out (s : State) : (recvByte s).g2Out = s.g2Out := rfl
@[simp] theorem recvByte_ind (s : State) : (recvByte s).ind = s.ind := rfl
@[simp] theorem recvByte_scl (s : State) : (recvByte s).scl = s.scl := rfl
@[simp] theorem recvByte_sdaM (s : State) : (recvByte s).sdaM = s.sdaM := rfl
@[simp] theorem recvByte_samples (s : State) : (recvByte s).samples = s.samples := rfl
@[simp] theorem recvByte_result (s : State) : (recvByte s).result = s.result := rfl
@[simp] theorem recvByte_agenda (s : State) : (recvByte s).agenda = s.agenda := rfl

/-! ### rearmToIdle -/

@[simp] theorem rearmToIdle_phase (s : State) : (rearmToIdle s).phase = .idle := rfl
@[simp] theorem rearmToIdle_dir (s : State) : (rearmToIdle s).dir = s.dir := rfl
@[simp] theorem rearmToIdle_xfer (s : State) : (rearmToIdle s).xfer = s.xfer := rfl
@[simp] theorem rearmToIdle_sr (s : State) : (rearmToIdle s).sr = s.sr := rfl
@[simp] theorem rearmToIdle_suMode (s : State) : (rearmToIdle s).suMode = .watch := rfl
@[simp] theorem rearmToIdle_suLen (s : State) : (rearmToIdle s).suLen = s.suLen := rfl
@[simp] theorem rearmToIdle_suCnt (s : State) : (rearmToIdle s).suCnt = 0 := rfl
@[simp] theorem rearmToIdle_fStart (s : State) : (rearmToIdle s).fStart = false := rfl
@[simp] theorem rearmToIdle_fOvf (s : State) : (rearmToIdle s).fOvf = false := rfl
@[simp] theorem rearmToIdle_fStop (s : State) : (rearmToIdle s).fStop = false := rfl
@[simp] theorem rearmToIdle_sdaS (s : State) : (rearmToIdle s).sdaS = true := rfl
@[simp] theorem rearmToIdle_portMode (s : State) : (rearmToIdle s).portMode = s.portMode := rfl
@[simp] theorem rearmToIdle_g1Dir (s : State) : (rearmToIdle s).g1Dir = s.g1Dir := rfl
@[simp] theorem rearmToIdle_g1Out (s : State) : (rearmToIdle s).g1Out = s.g1Out := rfl
@[simp] theorem rearmToIdle_g2Dir (s : State) : (rearmToIdle s).g2Dir = s.g2Dir := rfl
@[simp] theorem rearmToIdle_g2Out (s : State) : (rearmToIdle s).g2Out = s.g2Out := rfl
@[simp] theorem rearmToIdle_ind (s : State) : (rearmToIdle s).ind = s.ind := rfl
@[simp] theorem rearmToIdle_scl (s : State) : (rearmToIdle s).scl = s.scl := rfl
@[simp] theorem rearmToIdle_sdaM (s : State) : (rearmToIdle s).sdaM = s.sdaM := rfl
@[simp] theorem rearmToIdle_samples (s : State) : (rearmToIdle s).samples = s.samples := rfl
@[simp] theorem rearmToIdle_result (s : State) : (rearmToIdle s).result = s.result := rfl
@[simp] theorem rearmToIdle_agenda (s : State) : (rearmToIdle s).agenda = s.agenda := rfl

/-! ### setInput -/

@[simp] theorem setInput_phase (s : State) : (setInput s).phase = s.phase := rfl
@[simp] theorem setInput_dir (s : State) : (setInput s).dir = s.dir := rfl
@[simp] theorem setInput_xfer (s : State) : (setInput s).xfer = s.xfer := rfl
@[simp] theorem setInput_sr (s : State) : (setInput s).sr = s.sr := rfl
@[simp] theorem setInput_suMode (s : State) : (setInput s).suMode = s.suMode := rfl
@[simp] theorem setInput_suLen (s : State) : (setInput s).suLen = s.suLen := rfl
@[simp] theorem setInput_suCnt (s : State) : (setInput s).suCnt = s.suCnt := rfl
@[simp] theorem setInput_fStart (s : State) : (setInput s).fStart = s.fStart := rfl
@[simp] theorem setInput_fOvf (s : State) : (setInput s).fOvf = s.fOvf := rfl
@[simp] theorem setInput_fStop (s : State) : (setInput s).fStop = s.fStop := rfl
@[simp] theorem setInput_sdaS (s : State) : (setInput s).sdaS = s.sdaS := rfl
@[simp] theorem setInput_portMode (s : State) : (setInput s).portMode = .input := rfl
@[simp] theorem setInput_g1Dir (s : State) : (setInput s).g1Dir = s.g1Dir &&& ~~~Config.maskG1 := rfl
@[simp] theorem setInput_g1Out (s : State) : (setInput s).g1Out = s.g1Out &&& ~~~Config.maskG1 := rfl
@[simp] theorem setInput_g2Dir (s : State) : (setInput s).g2Dir = s.g2Dir &&& ~~~Config.maskG2 := rfl
@[simp] theorem setInput_g2Out (s : State) : (setInput s).g2Out = s.g2Out &&& ~~~Config.maskG2 := rfl
@[simp] theorem setInput_ind (s : State) : (setInput s).ind = false := rfl
@[simp] theorem setInput_scl (s : State) : (setInput s).scl = s.scl := rfl
@[simp] theorem setInput_sdaM (s : State) : (setInput s).sdaM = s.sdaM := rfl
@[simp] theorem setInput_samples (s : State) : (setInput s).samples = s.samples := rfl
@[simp] theorem setInput_result (s : State) : (setInput s).result = s.result := rfl
@[simp] theorem setInput_agenda (s : State) : (setInput s).agenda = s.agenda := rfl

/-! ### setOutput -/

@[simp] theorem setOutput_phase (s : State) : (setOutput s).phase = s.phase := rfl
@[simp] theorem setOutput_dir (s : State) : (setOutput s).dir = s.dir := rfl
@[simp] theorem setOutput_xfer (s : State) : (setOutput s).xfer = s.xfer := rfl
@[simp] theorem setOutput_sr (s : State) : (setOutput s).sr = s.sr := rfl
@[simp] theorem setOutput_suMode (s : State) : (setOutput s).suMode = s.suMode := rfl
@[simp] theorem setOutput_suLen (s : State) : (setOutput s).suLen = s.suLen := rfl
@[simp] theorem setOutput_suCnt (s : State) : (setOutput s).suCnt = s.suCnt := rfl
@[simp] theorem setOutput_fStart (s : State) : (setOutput s).fStart = s.fStart := rfl
@[simp] theorem setOutput_fOvf (s : State) : (setOutput s).fOvf = s.fOvf := rfl
@[simp] theorem setOutput_fStop (s : State) : (setOutput s).fStop = s.fStop := rfl
@[simp] theorem setOutput_sdaS (s : State) : (setOutput s).sdaS = s.sdaS := rfl
@[simp] theorem setOutput_portMode (s : State) : (setOutput s).portMode = .output := rfl
@[simp] theorem setOutput_g1Dir (s : State) : (setOutput s).g1Dir = s.g1Dir ||| Config.maskG1 := rfl
@[simp] theorem setOutput_g1Out (s : State) : (setOutput s).g1Out = s.g1Out := rfl
@[simp] theorem setOutput_g2Dir (s : State) : (setOutput s).g2Dir = s.g2Dir ||| Config.maskG2 := rfl
@[simp] theorem setOutput_g2Out (s : State) : (setOutput s).g2Out = s.g2Out := rfl
@[simp] theorem setOutput_ind (s : State) : (setOutput s).ind = true := rfl
@[simp] theorem setOutput_scl (s : State) : (setOutput s).scl = s.scl := rfl
@[simp] theorem setOutput_sdaM (s : State) : (setOutput s).sdaM = s.sdaM := rfl
@[simp] theorem setOutput_samples (s : State) : (setOutput s).samples = s.samples := rfl
@[simp] theorem setOutput_result (s : State) : (setOutput s).result = s.result := rfl
@[simp] theorem setOutput_agenda (s : State) : (setOutput s).agenda = s.agenda := rfl

/-! ### writeAll -/

@[simp] theorem writeAll_phase (b : Byte) (s : State) : (writeAll b s).phase = s.phase := rfl
@[simp] theorem writeAll_dir (b : Byte) (s : State) : (writeAll b s).dir = s.dir := rfl
@[simp] theorem writeAll_xfer (b : Byte) (s : State) : (writeAll b s).xfer = s.xfer := rfl
@[simp] theorem writeAll_sr (b : Byte) (s : State) : (writeAll b s).sr = s.sr := rfl
@[simp] theorem writeAll_suMode (b : Byte) (s : State) : (writeAll b s).suMode = s.suMode := rfl
@[simp] theorem writeAll_suLen (b : Byte) (s : State) : (writeAll b s).suLen = s.suLen := rfl
@[simp] theorem writeAll_suCnt (b : Byte) (s : State) : (writeAll b s).suCnt = s.suCnt := rfl
@[simp] theorem writeAll_fStart (b : Byte) (s : State) : (writeAll b s).fStart = s.fStart := rfl
@[simp] theorem writeAll_fOvf (b : Byte) (s : State) : (writeAll b s).fOvf = s.fOvf := rfl
@[simp] theorem writeAll_fStop (b : Byte) (s : State) : (writeAll b s).fStop = s.fStop := rfl
@[simp] theorem writeAll_sdaS (b : Byte) (s : State) : (writeAll b s).sdaS = s.sdaS := rfl
@[simp] theorem writeAll_portMode (b : Byte) (s : State) : (writeAll b s).portMode = s.portMode := rfl
@[simp] theorem writeAll_g1Dir (b : Byte) (s : State) : (writeAll b s).g1Dir = s.g1Dir := rfl
@[simp] theorem writeAll_g1Out (b : Byte) (s : State) : (writeAll b s).g1Out = writeUnder Config.maskG1 s.g1Out (toG1 b) := rfl
@[simp] theorem writeAll_g2Dir (b : Byte) (s : State) : (writeAll b s).g2Dir = s.g2Dir := rfl
@[simp] theorem writeAll_g2Out (b : Byte) (s : State) : (writeAll b s).g2Out = writeUnder Config.maskG2 s.g2Out (toG2 b) := rfl
@[simp] theorem writeAll_ind (b : Byte) (s : State) : (writeAll b s).ind = s.ind := rfl
@[simp] theorem writeAll_scl (b : Byte) (s : State) : (writeAll b s).scl = s.scl := rfl
@[simp] theorem writeAll_sdaM (b : Byte) (s : State) : (writeAll b s).sdaM = s.sdaM := rfl
@[simp] theorem writeAll_samples (b : Byte) (s : State) : (writeAll b s).samples = s.samples := rfl
@[simp] theorem writeAll_result (b : Byte) (s : State) : (writeAll b s).result = s.result := rfl
@[simp] theorem writeAll_agenda (b : Byte) (s : State) : (writeAll b s).agenda = s.agenda := rfl

/-! ### drawSample -/

@[simp] theorem drawSample_phase (s : State) : (drawSample s).phase = s.phase := rfl
@[simp] theorem drawSample_dir (s : State) : (drawSample s).dir = s.dir := rfl
@[simp] theorem drawSample_xfer (s : State) : (drawSample s).xfer = s.xfer := rfl
@[simp] theorem drawSample_sr (s : State) : (drawSample s).sr = s.sr := rfl
@[simp] theorem drawSample_suMode (s : State) : (drawSample s).suMode = s.suMode := rfl
@[simp] theorem drawSample_suLen (s : State) : (drawSample s).suLen = s.suLen := rfl
@[simp] theorem drawSample_suCnt (s : State) : (drawSample s).suCnt = s.suCnt := rfl
@[simp] theorem drawSample_fStart (s : State) : (drawSample s).fStart = s.fStart := rfl
@[simp] theorem drawSample_fOvf (s : State) : (drawSample s).fOvf = s.fOvf := rfl
@[simp] theorem drawSample_fStop (s : State) : (drawSample s).fStop = s.fStop := rfl
@[simp] theorem drawSample_sdaS (s : State) : (drawSample s).sdaS = s.sdaS := rfl
@[simp] theorem drawSample_portMode (s : State) : (drawSample s).portMode = s.portMode := rfl
@[simp] theorem drawSample_g1Dir (s : State) : (drawSample s).g1Dir = s.g1Dir := rfl
@[simp] theorem drawSample_g1Out (s : State) : (drawSample s).g1Out = s.g1Out := rfl
@[simp] theorem drawSample_g2Dir (s : State) : (drawSample s).g2Dir = s.g2Dir := rfl
@[simp] theorem drawSample_g2Out (s : State) : (drawSample s).g2Out = s.g2Out := rfl
@[simp] theorem drawSample_ind (s : State) : (drawSample s).ind = s.ind := rfl
@[simp] theorem drawSample_scl (s : State) : (drawSample s).scl = s.scl := rfl
@[simp] theorem drawSample_sdaM (s : State) : (drawSample s).sdaM = s.sdaM := rfl
@[simp] theorem drawSample_samples (s : State) : (drawSample s).samples = s.samples + 1 := rfl
@[simp] theorem drawSample_result (s : State) : (drawSample s).result = s.result := rfl
@[simp] theorem drawSample_agenda (s : State) : (drawSample s).agenda = s.agenda := rfl

/-! ### sampleToXfer -/

@[simp] theorem sampleToXfer_phase (s : State) : (sampleToXfer s).phase = s.phase := rfl
@[simp] theorem sampleToXfer_dir (s : State) : (sampleToXfer s).dir = s.dir := rfl
@[simp] theorem sampleToXfer_xfer (s : State) : (sampleToXfer s).xfer = readAllValue s := rfl
@[simp] theorem sampleToXfer_sr (s : State) : (sampleToXfer s).sr = s.sr := rfl
@[simp] theorem sampleToXfer_suMode (s : State) : (sampleToXfer s).suMode = s.suMode := rfl
@[simp] theorem sampleToXfer_suLen (s : State) : (sampleToXfer s).suLen = s.suLen := rfl
@[simp] theorem sampleToXfer_suCnt (s : State) : (sampleToXfer s).suCnt = s.suCnt := rfl
@[simp] theorem sampleToXfer_fStart (s : State) : (sampleToXfer s).fStart = s.fStart := rfl
@[simp] theorem sampleToXfer_fOvf (s : State) : (sampleToXfer s).fOvf = s.fOvf := rfl
@[simp] theorem sampleToXfer_fStop (s : State) : (sampleToXfer s).fStop = s.fStop := rfl
@[simp] theorem sampleToXfer_sdaS (s : State) : (sampleToXfer s).sdaS = s.sdaS := rfl
@[simp] theorem sampleToXfer_portMode (s : State) : (sampleToXfer s).portMode = s.portMode := rfl
@[simp] theorem sampleToXfer_g1Dir (s : State) : (sampleToXfer s).g1Dir = s.g1Dir := rfl
@[simp] theorem sampleToXfer_g1Out (s : State) : (sampleToXfer s).g1Out = s.g1Out := rfl
@[simp] theorem sampleToXfer_g2Dir (s : State) : (sampleToXfer s).g2Dir = s.g2Dir := rfl
@[simp] theorem sampleToXfer_g2Out (s : State) : (sampleToXfer s).g2Out = s.g2Out := rfl
@[simp] theorem sampleToXfer_ind (s : State) : (sampleToXfer s).ind = s.ind := rfl
@[simp] theorem sampleToXfer_scl (s : State) : (sampleToXfer s).scl = s.scl := rfl
@[simp] theorem sampleToXfer_sdaM (s : State) : (sampleToXfer s).sdaM = s.sdaM := rfl
@[simp] theorem sampleToXfer_samples (s : State) : (sampleToXfer s).samples = s.samples + 1 := rfl
@[simp] theorem sampleToXfer_result (s : State) : (sampleToXfer s).result = s.result := rfl
@[simp] theorem sampleToXfer_agenda (s : State) : (sampleToXfer s).agenda = s.agenda := rfl

/-! ### sampleToResult -/

@[simp] theorem sampleToResult_phase (s : State) : (sampleToResult s).phase = s.phase := rfl
@[simp] theorem sampleToResult_dir (s : State) : (sampleToResult s).dir = s.dir := rfl
@[simp] theorem sampleToResult_xfer (s : State) : (sampleToResult s).xfer = s.xfer := rfl
@[simp] theorem sampleToResult_sr (s : State) : (sampleToResult s).sr = s.sr := rfl
@[simp] theorem sampleToResult_suMode (s : State) : (sampleToResult s).suMode = s.suMode := rfl
@[simp] theorem sampleToResult_suLen (s : State) : (sampleToResult s).suLen = s.suLen := rfl
@[simp] theorem sampleToResult_suCnt (s : State) : (sampleToResult s).suCnt = s.suCnt := rfl
@[simp] theorem sampleToResult_fStart (s : State) : (sampleToResult s).fStart = s.fStart := rfl
@[simp] theorem sampleToResult_fOvf (s : State) : (sampleToResult s).fOvf = s.fOvf := rfl
@[simp] theorem sampleToResult_fStop (s : State) : (sampleToResult s).fStop = s.fStop := rfl
@[simp] theorem sampleToResult_sdaS (s : State) : (sampleToResult s).sdaS = s.sdaS := rfl
@[simp] theorem sampleToResult_portMode (s : State) : (sampleToResult s).portMode = s.portMode := rfl
@[simp] theorem sampleToResult_g1Dir (s : State) : (sampleToResult s).g1Dir = s.g1Dir := rfl
@[simp] theorem sampleToResult_g1Out (s : State) : (sampleToResult s).g1Out = s.g1Out := rfl
@[simp] theorem sampleToResult_g2Dir (s : State) : (sampleToResult s).g2Dir = s.g2Dir := rfl
@[simp] theorem sampleToResult_g2Out (s : State) : (sampleToResult s).g2Out = s.g2Out := rfl
@[simp] theorem sampleToResult_ind (s : State) : (sampleToResult s).ind = s.ind := rfl
@[simp] theorem sampleToResult_scl (s : State) : (sampleToResult s).scl = s.scl := rfl
@[simp] theorem sampleToResult_sdaM (s : State) : (sampleToResult s).sdaM = s.sdaM := rfl
@[simp] theorem sampleToResult_samples (s : State) : (sampleToResult s).samples = s.samples + 1 := rfl
@[simp] theorem sampleToResult_result (s : State) : (sampleToResult s).result = readAllValue s := rfl
@[simp] theorem sampleToResult_agenda (s : State) : (sampleToResult s).agenda = s.agenda := rfl

/-! ### captureByte -/

@[simp] theorem captureByte_phase (b : Byte) (s : State) : (captureByte b s).phase = .wrSack := rfl
@[simp] theorem captureByte_dir (b : Byte) (s : State) : (captureByte b s).dir = s.dir := rfl
@[simp] theorem captureByte_xfer (b : Byte) (s : State) : (captureByte b s).xfer = b := rfl
@[simp] theorem captureByte_sr (b : Byte) (s : State) : (captureByte b s).sr = s.sr := rfl
@[simp] theorem captureByte_suMode (b : Byte) (s : State) : (captureByte b s).suMode = s.suMode := rfl
@[simp] theorem captureByte_suLen (b : Byte) (s : State) : (captureByte b s).suLen = s.suLen := rfl
@[simp] theorem captureByte_suCnt (b : Byte) (s : State) : (captureByte b s).suCnt = s.suCnt := rfl
@[simp] theorem captureByte_fStart (b : Byte) (s : State) : (captureByte b s).fStart = s.fStart := rfl
@[simp] theorem captureByte_fOvf (b : Byte) (s : State) : (captureByte b s).fOvf = s.fOvf := rfl
@[simp] theorem captureByte_fStop (b : Byte) (s : State) : (captureByte b s).fStop = s.fStop := rfl
@[simp] theorem captureByte_sdaS (b : Byte) (s : State) : (captureByte b s).sdaS = s.sdaS := rfl
@[simp] theorem captureByte_portMode (b : Byte) (s : State) : (captureByte b s).portMode = s.portMode := rfl
@[simp] theorem captureByte_g1Dir (b : Byte) (s : State) : (captureByte b s).g1Dir = s.g1Dir := rfl
@[simp] theorem captureByte_g1Out (b : Byte) (s : State) : (captureByte b s).g1Out = s.g1Out := rfl
@[simp] theorem captureByte_g2Dir (b : Byte) (s : State) : (captureByte b s).g2Dir = s.g2Dir := rfl
@[simp] theorem captureByte_g2Out (b : Byte) (s : State) : (captureByte b s).g2Out = s.g2Out := rfl
@[simp] theorem captureByte_ind (b : Byte) (s : State) : (captureByte b s).ind = s.ind := rfl
@[simp] theorem captureByte_scl (b : Byte) (s : State) : (captureByte b s).scl = s.scl := rfl
@[simp] theorem captureByte_sdaM (b : Byte) (s : State) : (captureByte b s).sdaM = s.sdaM := rfl
@[simp] theorem captureByte_samples (b : Byte) (s : State) : (captureByte b s).samples = s.samples := rfl
@[simp] theorem captureByte_result (b : Byte) (s : State) : (captureByte b s).result = s.result := rfl
@[simp] theorem captureByte_agenda (b : Byte) (s : State) : (captureByte b s).agenda = s.agenda := rfl

/-! ### presentByte -/

@[simp] theorem presentByte_phase (b : Byte) (s : State) : (presentByte b s).phase = .rdWaitSend := rfl
@[simp] theorem presentByte_dir (b : Byte) (s : State) : (presentByte b s).dir = s.dir := rfl
@[simp] theorem presentByte_xfer (b : Byte) (s : State) : (presentByte b s).xfer = s.xfer := rfl
@[simp] theorem presentByte_sr (b : Byte) (s : State) : (presentByte b s).sr = b := rfl
@[simp] theorem presentByte_suMode (b : Byte) (s : State) : (presentByte b s).suMode = .tx := rfl
@[simp] theorem presentByte_suLen (b : Byte) (s : State) : (presentByte b s).suLen = .eight := rfl
@[simp] theorem presentByte_suCnt (b : Byte) (s : State) : (presentByte b s).suCnt = 0 := rfl
@[simp] theorem presentByte_fStart (b : Byte) (s : State) : (presentByte b s).fStart = s.fStart := rfl
@[simp] theorem presentByte_fOvf (b : Byte) (s : State) : (presentByte b s).fOvf = false := rfl
@[simp] theorem presentByte_fStop (b : Byte) (s : State) : (presentByte b s).fStop = s.fStop := rfl
@[simp] theorem presentByte_sdaS (b : Byte) (s : State) : (presentByte b s).sdaS = topBit b := rfl
@[simp] theorem presentByte_portMode (b : Byte) (s : State) : (presentByte b s).portMode = s.portMode := rfl
@[simp] theorem presentByte_g1Dir (b : Byte) (s : State) : (presentByte b s).g1Dir = s.g1Dir := rfl
@[simp] theorem presentByte_g1Out (b : Byte) (s : State) : (presentByte b s).g1Out = s.g1Out := rfl
@[simp] theorem presentByte_g2Dir (b : Byte) (s : State) : (presentByte b s).g2Dir = s.g2Dir := rfl
@[simp] theorem presentByte_g2Out (b : Byte) (s : State) : (presentByte b s).g2Out = s.g2Out := rfl
@[simp] theorem presentByte_ind (b : Byte) (s : State) : (presentByte b s).ind = s.ind := rfl
@[simp] theorem presentByte_scl (b : Byte) (s : State) : (presentByte b s).scl = s.scl := rfl
@[simp] theorem presentByte_sdaM (b : Byte) (s : State) : (presentByte b s).sdaM = s.sdaM := rfl
@[simp] theorem presentByte_samples (b : Byte) (s : State) : (presentByte b s).samples = s.samples := rfl
@[simp] theorem presentByte_result (b : Byte) (s : State) : (presentByte b s).result = s.result := rfl
@[simp] theorem presentByte_agenda (b : Byte) (s : State) : (presentByte b s).agenda = s.agenda := rfl

/-! ### placeWord -/

@[simp] theorem placeWord_phase (f : Format) (w : CodeWord) (s : State) : (placeWord f w s).phase = s.phase := rfl
@[simp] theorem placeWord_dir (f : Format) (w : CodeWord) (s : State) : (placeWord f w s).dir = s.dir := rfl
@[simp] theorem placeWord_xfer (f : Format) (w : CodeWord) (s : State) : (placeWord f w s).xfer = s.xfer := rfl
@[simp] theorem placeWord_sr (f : Format) (w : CodeWord) (s : State) : (placeWord f w s).sr = s.sr := rfl
@[simp] theorem placeWord_suMode (f : Format) (w : CodeWord) (s : State) : (placeWord f w s).suMode = s.suMode := rfl
@[simp] theorem placeWord_suLen (f : Format) (w : CodeWord) (s : State) : (placeWord f w s).suLen = s.suLen := rfl
@[simp] theorem placeWord_suCnt (f : Format) (w : CodeWord) (s : State) : (placeWord f w s).suCnt = s.suCnt := rfl
@[simp] theorem placeWord_fStart (f : Format) (w : CodeWord) (s : State) : (placeWord f w s).fStart = s.fStart := rfl
@[simp] theorem placeWord_fOvf (f : Format) (w : CodeWord) (s : State) : (placeWord f w s).fOvf = s.fOvf := rfl
@[simp] theorem placeWord_fStop (f : Format) (w : CodeWord) (s : State) : (placeWord f w s).fStop = s.fStop := rfl
@[simp] theorem placeWord_sdaS (f : Format) (w : CodeWord) (s : State) : (placeWord f w s).sdaS = s.sdaS := rfl
@[simp] theorem placeWord_portMode (f : Format) (w : CodeWord) (s : State) : (placeWord f w s).portMode = s.portMode := rfl
@[simp] theorem placeWord_g1Dir (f : Format) (w : CodeWord) (s : State) : (placeWord f w s).g1Dir = s.g1Dir := rfl
@[simp] theorem placeWord_g1Out (f : Format) (w : CodeWord) (s : State) : (placeWord f w s).g1Out = s.g1Out := rfl
@[simp] theorem placeWord_g2Dir (f : Format) (w : CodeWord) (s : State) : (placeWord f w s).g2Dir = s.g2Dir := rfl
@[simp] theorem placeWord_g2Out (f : Format) (w : CodeWord) (s : State) : (placeWord f w s).g2Out = s.g2Out := rfl
@[simp] theorem placeWord_ind (f : Format) (w : CodeWord) (s : State) : (placeWord f w s).ind = s.ind := rfl
@[simp] theorem placeWord_scl (f : Format) (w : CodeWord) (s : State) : (placeWord f w s).scl = s.scl := rfl
@[simp] theorem placeWord_sdaM (f : Format) (w : CodeWord) (s : State) : (placeWord f w s).sdaM = s.sdaM := rfl
@[simp] theorem placeWord_samples (f : Format) (w : CodeWord) (s : State) : (placeWord f w s).samples = s.samples := rfl
@[simp] theorem placeWord_result (f : Format) (w : CodeWord) (s : State) : (placeWord f w s).result = s.result := rfl
@[simp] theorem placeWord_agenda (f : Format) (w : CodeWord) (s : State) : (placeWord f w s).agenda = .word f w :: s.agenda := rfl

/-! ### edgeRise: the fields it never writes -/

@[simp] theorem edgeRise_phase (s : State) : (edgeRise s).phase = s.phase := by
  unfold edgeRise; split <;> rfl
@[simp] theorem edgeRise_dir (s : State) : (edgeRise s).dir = s.dir := by
  unfold edgeRise; split <;> rfl
@[simp] theorem edgeRise_xfer (s : State) : (edgeRise s).xfer = s.xfer := by
  unfold edgeRise; split <;> rfl
@[simp] theorem edgeRise_suMode (s : State) : (edgeRise s).suMode = s.suMode := by
  unfold edgeRise; split <;> rfl
@[simp] theorem edgeRise_suLen (s : State) : (edgeRise s).suLen = s.suLen := by
  unfold edgeRise; split <;> rfl
@[simp] theorem edgeRise_suCnt (s : State) : (edgeRise s).suCnt = s.suCnt := by
  unfold edgeRise; split <;> rfl
@[simp] theorem edgeRise_fStart (s : State) : (edgeRise s).fStart = s.fStart := by
  unfold edgeRise; split <;> rfl
@[simp] theorem edgeRise_fOvf (s : State) : (edgeRise s).fOvf = s.fOvf := by
  unfold edgeRise; split <;> rfl
@[simp] theorem edgeRise_fStop (s : State) : (edgeRise s).fStop = s.fStop := by
  unfold edgeRise; split <;> rfl
@[simp] theorem edgeRise_sdaS (s : State) : (edgeRise s).sdaS = s.sdaS := by
  unfold edgeRise; split <;> rfl
@[simp] theorem edgeRise_portMode (s : State) : (edgeRise s).portMode = s.portMode := by
  unfold edgeRise; split <;> rfl
@[simp] theorem edgeRise_g1Dir (s : State) : (edgeRise s).g1Dir = s.g1Dir := by
  unfold edgeRise; split <;> rfl
@[simp] theorem edgeRise_g1Out (s : State) : (edgeRise s).g1Out = s.g1Out := by
  unfold edgeRise; split <;> rfl
@[simp] theorem edgeRise_g2Dir (s : State) : (edgeRise s).g2Dir = s.g2Dir := by
  unfold edgeRise; split <;> rfl
@[simp] theorem edgeRise_g2Out (s : State) : (edgeRise s).g2Out = s.g2Out := by
  unfold edgeRise; split <;> rfl
@[simp] theorem edgeRise_ind (s : State) : (edgeRise s).ind = s.ind := by
  unfold edgeRise; split <;> rfl
@[simp] theorem edgeRise_scl (s : State) : (edgeRise s).scl = s.scl := by
  unfold edgeRise; split <;> rfl
@[simp] theorem edgeRise_sdaM (s : State) : (edgeRise s).sdaM = s.sdaM := by
  unfold edgeRise; split <;> rfl
@[simp] theorem edgeRise_samples (s : State) : (edgeRise s).samples = s.samples := by
  unfold edgeRise; split <;> rfl
@[simp] theorem edgeRise_result (s : State) : (edgeRise s).result = s.result := by
  unfold edgeRise; split <;> rfl
@[simp] theorem edgeRise_agenda (s : State) : (edgeRise s).agenda = s.agenda := by
  unfold edgeRise; split <;> rfl

/-! ### edgeFall: the fields it never writes -/

@[simp] theorem edgeFall_phase (s : State) : (edgeFall s).phase = s.phase := by
  unfold edgeFall; repeat (first | rfl | split)
@[simp] theorem edgeFall_dir (s : State) : (edgeFall s).dir = s.dir := by
  unfold edgeFall; repeat (first | rfl | split)
@[simp] theorem edgeFall_xfer (s : State) : (edgeFall s).xfer = s.xfer := by
  unfold edgeFall; repeat (first | rfl | split)
@[simp] theorem edgeFall_sr (s : State) : (edgeFall s).sr = s.sr := by
  unfold edgeFall; repeat (first | rfl | split)
@[simp] theorem edgeFall_suMode (s : State) : (edgeFall s).suMode = s.suMode := by
  unfold edgeFall; repeat (first | rfl | split)
@[simp] theorem edgeFall_suLen (s : State) : (edgeFall s).suLen = s.suLen := by
  unfold edgeFall; repeat (first | rfl | split)
@[simp] theorem edgeFall_fStart (s : State) : (edgeFall s).fStart = s.fStart := by
  unfold edgeFall; repeat (first | rfl | split)
@[simp] theorem edgeFall_fStop (s : State) : (edgeFall s).fStop = s.fStop := by
  unfold edgeFall; repeat (first | rfl | split)
@[simp] theorem edgeFall_portMode (s : State) : (edgeFall s).portMode = s.portMode := by
  unfold edgeFall; repeat (first | rfl | split)
@[simp] theorem edgeFall_g1Dir (s : State) : (edgeFall s).g1Dir = s.g1Dir := by
  unfold edgeFall; repeat (first | rfl | split)
@[simp] theorem edgeFall_g1Out (s : State) : (edgeFall s).g1Out = s.g1Out := by
  unfold edgeFall; repeat (first | rfl | split)
@[simp] theorem edgeFall_g2Dir (s : State) : (edgeFall s).g2Dir = s.g2Dir := by
  unfold edgeFall; repeat (first | rfl | split)
@[simp] theorem edgeFall_g2Out (s : State) : (edgeFall s).g2Out = s.g2Out := by
  unfold edgeFall; repeat (first | rfl | split)
@[simp] theorem edgeFall_ind (s : State) : (edgeFall s).ind = s.ind := by
  unfold edgeFall; repeat (first | rfl | split)
@[simp] theorem edgeFall_scl (s : State) : (edgeFall s).scl = s.scl := by
  unfold edgeFall; repeat (first | rfl | split)
@[simp] theorem edgeFall_sdaM (s : State) : (edgeFall s).sdaM = s.sdaM := by
  unfold edgeFall; repeat (first | rfl | split)
@[simp] theorem edgeFall_samples (s : State) : (edgeFall s).samples = s.samples := by
  unfold edgeFall; repeat (first | rfl | split)
@[simp] theorem edgeFall_result (s : State) : (edgeFall s).result = s.result := by
  unfold edgeFall; repeat (first | rfl | split)
@[simp] theorem edgeFall_agenda (s : State) : (edgeFall s).agenda = s.agenda := by
  unfold edgeFall; repeat (first | rfl | split)

/-! ### waitOvf: the fields it never writes -/

@[simp] theorem waitOvf_dir (p : Phase) (s : State) : (waitOvf p s).dir = s.dir := by
  unfold waitOvf; split <;> rfl
@[simp] theorem waitOvf_xfer (p : Phase) (s : State) : (waitOvf p s).xfer = s.xfer := by
  unfold waitOvf; split <;> rfl
@[simp] theorem waitOvf_sr (p : Phase) (s : State) : (waitOvf p s).sr = s.sr := by
  unfold waitOvf; split <;> rfl
@[simp] theorem waitOvf_suMode (p : Phase) (s : State) : (waitOvf p s).suMode = s.suMode := by
  unfold waitOvf; split <;> rfl
@[simp] theorem waitOvf_suLen (p : Phase) (s : State) : (waitOvf p s).suLen = s.suLen := by
  unfold waitOvf; split <;> rfl
@[simp] theorem waitOvf_suCnt (p : Phase) (s : State) : (waitOvf p s).suCnt = s.suCnt := by
  unfold waitOvf; split <;> rfl
@[simp] theorem waitOvf_fStart (p : Phase) (s : State) : (waitOvf p s).fStart = s.fStart := by
  unfold waitOvf; split <;> rfl
@[simp] theorem waitOvf_fOvf (p : Phase) (s : State) : (waitOvf p s).fOvf = s.fOvf := by
  unfold waitOvf; split <;> rfl
@[simp] theorem waitOvf_fStop (p : Phase) (s : State) : (waitOvf p s).fStop = s.fStop := by
  unfold waitOvf; split <;> rfl
@[simp] theorem waitOvf_sdaS (p : Phase) (s : State) : (waitOvf p s).sdaS = s.sdaS := by
  unfold waitOvf; split <;> rfl
@[simp] theorem waitOvf_portMode (p : Phase) (s : State) : (waitOvf p s).portMode = s.portMode := by
  unfold waitOvf; split <;> rfl
@[simp] theorem waitOvf_g1Dir (p : Phase) (s : State) : (waitOvf p s).g1Dir = s.g1Dir := by
  unfold waitOvf; split <;> rfl
@[simp] theorem waitOvf_g1Out (p : Phase) (s : State) : (waitOvf p s).g1Out = s.g1Out := by
  unfold waitOvf; split <;> rfl
@[simp] theorem waitOvf_g2Dir (p : Phase) (s : State) : (waitOvf p s).g2Dir = s.g2Dir := by
  unfold waitOvf; split <;> rfl
@[simp] theorem waitOvf_g2Out (p : Phase) (s : State) : (waitOvf p s).g2Out = s.g2Out := by
  unfold waitOvf; split <;> rfl
@[simp] theorem waitOvf_ind (p : Phase) (s : State) : (waitOvf p s).ind = s.ind := by
  unfold waitOvf; split <;> rfl
@[simp] theorem waitOvf_scl (p : Phase) (s : State) : (waitOvf p s).scl = s.scl := by
  unfold waitOvf; split <;> rfl
@[simp] theorem waitOvf_sdaM (p : Phase) (s : State) : (waitOvf p s).sdaM = s.sdaM := by
  unfold waitOvf; split <;> rfl
@[simp] theorem waitOvf_samples (p : Phase) (s : State) : (waitOvf p s).samples = s.samples := by
  unfold waitOvf; split <;> rfl
@[simp] theorem waitOvf_result (p : Phase) (s : State) : (waitOvf p s).result = s.result := by
  unfold waitOvf; split <;> rfl
@[simp] theorem waitOvf_agenda (p : Phase) (s : State) : (waitOvf p s).agenda = s.agenda := by
  unfold waitOvf; split <;> rfl

/-! ### waitSclLow: the fields it never writes -/

@[simp] theorem waitSclLow_dir (p : Phase) (s : State) : (waitSclLow p s).dir = s.dir := by
  unfold waitSclLow; split <;> rfl
@[simp] theorem waitSclLow_xfer (p : Phase) (s : State) : (waitSclLow p s).xfer = s.xfer := by
  unfold waitSclLow; split <;> rfl
@[simp] theorem waitSclLow_sr (p : Phase) (s : State) : (waitSclLow p s).sr = s.sr := by
  unfold waitSclLow; split <;> rfl
@[simp] theorem waitSclLow_suMode (p : Phase) (s : State) : (waitSclLow p s).suMode = s.suMode := by
  unfold waitSclLow; split <;> rfl
@[simp] theorem waitSclLow_suLen (p : Phase) (s : State) : (waitSclLow p s).suLen = s.suLen := by
  unfold waitSclLow; split <;> rfl
@[simp] theorem waitSclLow_suCnt (p : Phase) (s : State) : (waitSclLow p s).suCnt = s.suCnt := by
  unfold waitSclLow; split <;> rfl
@[simp] theorem waitSclLow_fStart (p : Phase) (s : State) : (waitSclLow p s).fStart = s.fStart := by
  unfold waitSclLow; split <;> rfl
@[simp] theorem waitSclLow_fOvf (p : Phase) (s : State) : (waitSclLow p s).fOvf = s.fOvf := by
  unfold waitSclLow; split <;> rfl
@[simp] theorem waitSclLow_fStop (p : Phase) (s : State) : (waitSclLow p s).fStop = s.fStop := by
  unfold waitSclLow; split <;> rfl
@[simp] theorem waitSclLow_sdaS (p : Phase) (s : State) : (waitSclLow p s).sdaS = s.sdaS := by
  unfold waitSclLow; split <;> rfl
@[simp] theorem waitSclLow_portMode (p : Phase) (s : State) : (waitSclLow p s).portMode = s.portMode := by
  unfold waitSclLow; split <;> rfl
@[simp] theorem waitSclLow_g1Dir (p : Phase) (s : State) : (waitSclLow p s).g1Dir = s.g1Dir := by
  unfold waitSclLow; split <;> rfl
@[simp] theorem waitSclLow_g1Out (p : Phase) (s : State) : (waitSclLow p s).g1Out = s.g1Out := by
  unfold waitSclLow; split <;> rfl
@[simp] theorem waitSclLow_g2Dir (p : Phase) (s : State) : (waitSclLow p s).g2Dir = s.g2Dir := by
  unfold waitSclLow; split <;> rfl
@[simp] theorem waitSclLow_g2Out (p : Phase) (s : State) : (waitSclLow p s).g2Out = s.g2Out := by
  unfold waitSclLow; split <;> rfl
@[simp] theorem waitSclLow_ind (p : Phase) (s : State) : (waitSclLow p s).ind = s.ind := by
  unfold waitSclLow; split <;> rfl
@[simp] theorem waitSclLow_scl (p : Phase) (s : State) : (waitSclLow p s).scl = s.scl := by
  unfold waitSclLow; split <;> rfl
@[simp] theorem waitSclLow_sdaM (p : Phase) (s : State) : (waitSclLow p s).sdaM = s.sdaM := by
  unfold waitSclLow; split <;> rfl
@[simp] theorem waitSclLow_samples (p : Phase) (s : State) : (waitSclLow p s).samples = s.samples := by
  unfold waitSclLow; split <;> rfl
@[simp] theorem waitSclLow_result (p : Phase) (s : State) : (waitSclLow p s).result = s.result := by
  unfold waitSclLow; split <;> rfl
@[simp] theorem waitSclLow_agenda (p : Phase) (s : State) : (waitSclLow p s).agenda = s.agenda := by
  unfold waitSclLow; split <;> rfl

/-! ### compareAddress: the fields it never writes -/

@[simp] theorem compareAddress_xfer (a : BitVec 7) (rw : Bool) (s : State) : (compareAddress a rw s).xfer = s.xfer := by
  unfold compareAddress; split <;> rfl
@[simp] theorem compareAddress_sr (a : BitVec 7) (rw : Bool) (s : State) : (compareAddress a rw s).sr = s.sr := by
  unfold compareAddress; split <;> rfl
@[simp] theorem compareAddress_suMode (a : BitVec 7) (rw : Bool) (s : State) : (compareAddress a rw s).suMode = s.suMode := by
  unfold compareAddress; split <;> rfl
@[simp] theorem compareAddress_suLen (a : BitVec 7) (rw : Bool) (s : State) : (compareAddress a rw s).suLen = s.suLen := by
  unfold compareAddress; split <;> rfl
@[simp] theorem compareAddress_suCnt (a : BitVec 7) (rw : Bool) (s : State) : (compareAddress a rw s).suCnt = s.suCnt := by
  unfold compareAddress; split <;> rfl
@[simp] theorem compareAddress_fStart (a : BitVec 7) (rw : Bool) (s : State) : (compareAddress a rw s).fStart = s.fStart := by
  unfold compareAddress; split <;> rfl
@[simp] theorem compareAddress_fOvf (a : BitVec 7) (rw : Bool) (s : State) : (compareAddress a rw s).fOvf = s.fOvf := by
  unfold compareAddress; split <;> rfl
@[simp] theorem compareAddress_fStop (a : BitVec 7) (rw : Bool) (s : State) : (compareAddress a rw s).fStop = s.fStop := by
  unfold compareAddress; split <;> rfl
@[simp] theorem compareAddress_sdaS (a : BitVec 7) (rw : Bool) (s : State) : (compareAddress a rw s).sdaS = s.sdaS := by
  unfold compareAddress; split <;> rfl
@[simp] theorem compareAddress_portMode (a : BitVec 7) (rw : Bool) (s : State) : (compareAddress a rw s).portMode = s.portMode := by
  unfold compareAddress; split <;> rfl
@[simp] theorem compareAddress_g1Dir (a : BitVec 7) (rw : Bool) (s : State) : (compareAddress a rw s).g1Dir = s.g1Dir := by
  unfold compareAddress; split <;> rfl
@[simp] theorem compareAddress_g1Out (a : BitVec 7) (rw : Bool) (s : State) : (compareAddress a rw s).g1Out = s.g1Out := by
  unfold compareAddress; split <;> rfl
@[simp] theorem compareAddress_g2Dir (a : BitVec 7) (rw : Bool) (s : State) : (compareAddress a rw s).g2Dir = s.g2Dir := by
  unfold compareAddress; split <;> rfl
@[simp] theorem compareAddress_g2Out (a : BitVec 7) (rw : Bool) (s : State) : (compareAddress a rw s).g2Out = s.g2Out := by
  unfold compareAddress; split <;> rfl
@[simp] theorem compareAddress_ind (a : BitVec 7) (rw : Bool) (s : State) : (compareAddress a rw s).ind = s.ind := by
  unfold compareAddress; split <;> rfl
@[simp] theorem compareAddress_scl (a : BitVec 7) (rw : Bool) (s : State) : (compareAddress a rw s).scl = s.scl := by
  unfold compareAddress; split <;> rfl
@[simp] theorem compareAddress_sdaM (a : BitVec 7) (rw : Bool) (s : State) : (compareAddress a rw s).sdaM = s.sdaM := by
  unfold compareAddress; split <;> rfl
@[simp] theorem compareAddress_samples (a : BitVec 7) (rw : Bool) (s : State) : (compareAddress a rw s).samples = s.samples := by
  unfold compareAddress; split <;> rfl
@[simp] theorem compareAddress_result (a : BitVec 7) (rw : Bool) (s : State) : (compareAddress a rw s).result = s.result := by
  unfold compareAddress; split <;> rfl
@[simp] theorem compareAddress_agenda (a : BitVec 7) (rw : Bool) (s : State) : (compareAddress a rw s).agenda = s.agenda := by
  unfold compareAddress; split <;> rfl

end Sys2Proof.Machine
end

