-- ==== Sys2Proof/Laws/Ops.lean ====
section
/-! SUPPORT. One lemma per shared operation: everything it can do. -/

namespace Sys2Proof.Machine

/-! ### The end of a step -/

theorem commit_next_iff {s t u : State} : commit s t = .next u ↔ u = detect s t := by
  simp [commit, eq_comm]

@[simp] theorem startSeen_self (s : State) : startSeen s s = false := by
  simp [startSeen]

@[simp] theorem stopSeen_self (s : State) : stopSeen s s = false := by
  simp [stopSeen]

/-- A step that leaves the SDA level alone makes no condition (R114). -/
theorem detect_eq_of_sda_eq {s t : State} (h : sda t = sda s) : detect s t = t := by
  cases hs : sda s <;> simp [detect, startSeen, stopSeen, h, hs]

/-- A step that leaves both drives alone makes no condition (R114). -/
theorem detect_eq_of_drives_eq {s t : State} (hm : t.sdaM = s.sdaM) (hs : t.sdaS = s.sdaS) : detect s t = t :=
  detect_eq_of_sda_eq (by simp [sda, hm, hs])

/-- A step that changes SCL makes no condition (R114). -/
theorem detect_eq_of_scl_ne {s t : State} (h : t.scl ≠ s.scl) : detect s t = t := by
  have hn : (s.scl && t.scl) = false := by cases hs : s.scl <;> cases ht : t.scl <;> simp_all
  simp [detect, startSeen, stopSeen, hn]

@[simp] theorem detect_self (s : State) : detect s s = s := detect_eq_of_sda_eq rfl

/-! ### Edges -/

theorem shifting_iff (s : State) : shifting s = true ↔ s.suMode ≠ .watch ∧ s.fOvf = false := by
  cases h : s.suMode <;> simp [shifting, h]

/-- The rising edge either samples or does nothing (R116). -/
theorem edgeRise_cases (s : State) :
    (shifting s = true ∧ edgeRise s = { s with sr := shiftIn s.sr (sda s) }) ∨
    (shifting s = false ∧ edgeRise s = s) := by
  cases h : shifting s <;> simp [edgeRise, h]

/-- The falling edge does nothing, completes the shift, presents the next bit, or counts (R117). -/
theorem edgeFall_cases (s : State) :
    (shifting s = false ∧ edgeFall s = s) ∨
    (shifting s = true ∧ s.suCnt + 1 = suLenVal s.suLen ∧
      edgeFall s = { s with suCnt := s.suCnt + 1, fOvf := true }) ∨
    (shifting s = true ∧ s.suCnt + 1 ≠ suLenVal s.suLen ∧ s.suMode = .tx ∧
      edgeFall s = { s with suCnt := s.suCnt + 1, sdaS := topBit s.sr }) ∨
    (shifting s = true ∧ s.suCnt + 1 ≠ suLenVal s.suLen ∧ s.suMode = .rx ∧
      edgeFall s = { s with suCnt := s.suCnt + 1 }) := by
  cases h : shifting s
  · exact .inl ⟨rfl, by simp [edgeFall, h]⟩
  · by_cases hn : s.suCnt + 1 = suLenVal s.suLen
    · exact .inr (.inl ⟨rfl, hn, by rw [edgeFall, if_pos h, if_pos hn]⟩)
    · have hw := ((shifting_iff s).1 h).1
      have hm : s.suMode = .rx ∨ s.suMode = .tx := by revert hw; cases s.suMode <;> simp
      rcases hm with hm | hm
      · exact .inr (.inr (.inr ⟨rfl, hn, hm, by rw [edgeFall, if_pos h, if_neg hn, if_neg (by simp [hm])]⟩))
      · exact .inr (.inr (.inl ⟨rfl, hn, hm, by rw [edgeFall, if_pos h, if_neg hn, if_pos hm]⟩))

/-- A count is refused exactly where an edge would count from 8 or more (log 17). -/
theorem countRefused_iff (s : State) :
    countRefused s = true ↔ (s.suMode ≠ .watch ∧ s.fOvf = false) ∧ 8 ≤ s.suCnt := by
  simp [countRefused, shifting_iff]

/-- Everything M_SCL0 can do: not enabled, refused at the count, or the falling edge (R112). -/
theorem execMScl0_cases (s : State) :
    (s.scl = false ∧ execMScl0 s = .refused (.eventNotEnabled .scl0)) ∨
    (s.scl = true ∧ countRefused s = true ∧ execMScl0 s = .refused .counterAboveEight) ∨
    (s.scl = true ∧ countRefused s = false ∧ execMScl0 s = commit s (edgeFall (setScl false s))) := by
  cases h : s.scl <;> cases hc : countRefused s <;> simp [execMScl0, h, hc]

/-! ### Waits -/

theorem waitOvf_cases (p : Phase) (s : State) :
    (s.fOvf = true ∧ waitOvf p s = gotoPhase p s) ∨ (s.fOvf = false ∧ waitOvf p s = s) := by
  cases h : s.fOvf <;> simp [waitOvf, h]

theorem waitSclLow_cases (p : Phase) (s : State) :
    (s.scl = false ∧ waitSclLow p s = gotoPhase p s) ∨ (s.scl = true ∧ waitSclLow p s = s) := by
  cases h : s.scl <;> simp [waitSclLow, h]

/-! ### The address match -/

theorem compareAddress_cases (a : BitVec 7) (rw : Bool) (s : State) :
    (a = Config.deviceAddress ∧ compareAddress a rw s = { s with dir := directionOfBit rw, phase := .addrAck }) ∨
    (a ≠ Config.deviceAddress ∧ compareAddress a rw s = gotoPhase .addrReject s) := by
  by_cases h : a = Config.deviceAddress <;> simp [compareAddress, h]

/-! ### The port's masks -/

/-- The bits outside a mask survive a write under it (R208). -/
theorem writeUnder_keeps (mask old new : Byte) : writeUnder mask old new &&& ~~~mask = old &&& ~~~mask := by
  ext i hi
  cases h : mask[i] <;> simp [writeUnder, h]

/-- The bits under a mask are the written ones (R204). -/
theorem writeUnder_writes (mask old new : Byte) : writeUnder mask old new &&& mask = new &&& mask := by
  ext i hi
  cases h : mask[i] <;> simp [writeUnder, h]

/-- Output pins read their latch, whatever the sample is (R201). -/
theorem groupLevel_of_driven {mask dir out sample : Byte} (h : dir &&& mask = mask) :
    groupLevel dir out sample &&& mask = out &&& mask := by
  ext i hi
  have hd : (dir[i] && mask[i]) = mask[i] := by
    have := congrArg (fun x : Byte => x[i]) h
    simpa using this
  cases hm : mask[i] <;> simp_all [groupLevel]

/-- Released pins read the sample (R201). -/
theorem groupLevel_of_released {mask dir out sample : Byte} (h : dir &&& mask = 0) :
    groupLevel dir out sample &&& mask = sample &&& mask := by
  ext i hi
  have hd : (dir[i] && mask[i]) = false := by
    have := congrArg (fun x : Byte => x[i]) h
    simpa using this
  cases hm : mask[i] <;> simp_all [groupLevel]

end Sys2Proof.Machine
end

