-- ==== Sys2Proof/Laws/PerInstr.lean ====
section
/-! SUPPORT. Statements made for every instruction, one lemma per constructor. EncodingFits: the word of an
instruction has no bit above its format's width, so no field of an encoding is cut off (R81 to R95). -/

namespace Sys2Proof.Laws.EncodingFits

/-- The word of the instruction fits its format. -/
def Statement (i : Instr) : Prop := (encode i).toNat < 2 ^ (formatOf i).width

theorem addrWrite : Statement .addrWrite := by unfold Statement; decide
theorem addrRead : Statement .addrRead := by unfold Statement; decide
theorem addrOther (addr7 : BitVec 7) (rw : Bool) : Statement (.addrOther addr7 rw) := by
  have h := (addr7 ++ BitVec.ofBool rw).isLt
  simp only [Statement, encode, addressWord, formatOf, Format.width, BitVec.toNat_setWidth]
  omega
theorem data (b : Byte) : Statement (.data b) := by
  have h := b.isLt
  simp only [Statement, encode, formatOf, Format.width, BitVec.toNat_setWidth]
  omega
theorem mScl0 : Statement .mScl0 := by unfold Statement; decide
theorem mScl1 : Statement .mScl1 := by unfold Statement; decide
theorem mSda0 : Statement .mSda0 := by unfold Statement; decide
theorem mSda1 : Statement .mSda1 := by unfold Statement; decide
theorem arm : Statement .arm := by unfold Statement; decide
theorem beginAddr : Statement .beginAddr := by unfold Statement; decide
theorem sdaIn : Statement .sdaIn := by unfold Statement; decide
theorem sendAck : Statement .sendAck := by unfold Statement; decide
theorem readAck : Statement .readAck := by unfold Statement; decide
theorem sendByte (value : Byte) : Statement (.sendByte value) := by
  have h := ((6 : BitVec 4) ++ value).isLt
  simp only [Statement, encode, commandWord, formatOf, Format.width, BitVec.toNat_setWidth]
  omega
theorem recvByte : Statement .recvByte := by unfold Statement; decide
theorem setInput : Statement .setInput := by unfold Statement; decide
theorem setOutput : Statement .setOutput := by unfold Statement; decide
theorem writeAll (b : Byte) : Statement (.writeAll b) := by
  have h := ((10 : BitVec 4) ++ b).isLt
  simp only [Statement, encode, commandWord, formatOf, Format.width, BitVec.toNat_setWidth]
  omega
theorem readAll : Statement .readAll := by unfold Statement; decide
theorem idle : Statement .idle := by unfold Statement; decide
theorem addrSdaIn : Statement .addrSdaIn := by unfold Statement; decide
theorem addrWaitSclLow : Statement .addrWaitSclLow := by unfold Statement; decide
theorem addrBegin : Statement .addrBegin := by unfold Statement; decide
theorem addrWait : Statement .addrWait := by unfold Statement; decide
theorem addrAbort : Statement .addrAbort := by unfold Statement; decide
theorem addrCompare : Statement .addrCompare := by unfold Statement; decide
theorem addrReject : Statement .addrReject := by unfold Statement; decide
theorem addrAck : Statement .addrAck := by unfold Statement; decide
theorem dispatch : Statement .dispatch := by unfold Statement; decide
theorem rdSetInput : Statement .rdSetInput := by unfold Statement; decide
theorem rdSample : Statement .rdSample := by unfold Statement; decide
theorem rdWaitAck : Statement .rdWaitAck := by unfold Statement; decide
theorem rdSend : Statement .rdSend := by unfold Statement; decide
theorem rdWaitSend : Statement .rdWaitSend := by unfold Statement; decide
theorem rdMack : Statement .rdMack := by unfold Statement; decide
theorem rdWaitMack : Statement .rdWaitMack := by unfold Statement; decide
theorem rdRearm : Statement .rdRearm := by unfold Statement; decide
theorem wrSetOutput : Statement .wrSetOutput := by unfold Statement; decide
theorem wrWaitAck : Statement .wrWaitAck := by unfold Statement; decide
theorem wrRecv : Statement .wrRecv := by unfold Statement; decide
theorem wrWaitRecv : Statement .wrWaitRecv := by unfold Statement; decide
theorem wrSack : Statement .wrSack := by unfold Statement; decide
theorem wrWaitSack : Statement .wrWaitSack := by unfold Statement; decide
theorem wrRearm : Statement .wrRearm := by unfold Statement; decide
theorem wrWrite : Statement .wrWrite := by unfold Statement; decide

end Sys2Proof.Laws.EncodingFits
end

