-- ==== Sys2Proof/Laws/Script.lean ====
section
/-! SUPPORT. What loading a script puts on the agenda: turns of the hardware's own agents, which leave the master's
lines as the tokens do, whatever schedule of controller turns stands between them. -/

namespace Sys2Proof.Machine

/-- Interleaving adds controller turns and nothing else. -/
theorem interleave_all {p : Turn → Bool} (hp : p .controller = true) :
    ∀ (turns : List Turn) (schedule : List Nat), turns.all p = true → (interleave schedule turns).all p = true := by
  intro turns
  induction turns with
  | nil => intro schedule _; cases schedule <;> rfl
  | cons turn rest ih =>
    intro schedule h
    obtain ⟨ht, hr⟩ : p turn = true ∧ rest.all p = true := by simpa using h
    cases schedule with
    | nil => simp [interleave, ht, ih [] hr]
    | cons k ks => simp [interleave, ht, hp, ih ks hr, -List.all_eq_true]

/-- Controller turns leave the master's lines alone (R38). -/
theorem foldl_afterTurn_replicate (k : Nat) (m : MasterLines) :
    (List.replicate k Turn.controller).foldl afterTurn m = m := by
  induction k with
  | zero => rfl
  | succ k ih => simpa [List.replicate_succ, afterTurn] using ih

/-- A schedule does not change what the turns leave of the master's lines. -/
theorem foldl_afterTurn_interleave :
    ∀ (turns : List Turn) (schedule : List Nat) (m : MasterLines),
      (interleave schedule turns).foldl afterTurn m = turns.foldl afterTurn m := by
  intro turns
  induction turns with
  | nil => intro schedule m; cases schedule <;> rfl
  | cons turn rest ih =>
    intro schedule m
    cases schedule with
    | nil => simp [interleave, ih]
    | cons k ks => simp [interleave, ih, List.foldl_append, foldl_afterTurn_replicate]

/-- The turns of a token are the hardware's own and leave the lines as the token does (R98). -/
theorem tokenTurns_spec (m : MasterLines) (k : Token) :
    (tokenTurns m k).all hardwareTurn = true ∧ (tokenTurns m k).foldl afterTurn m = afterToken m k := by
  have events : ∀ (es : List MasterEvent) (m : MasterLines),
      (es.map eventTurn).all hardwareTurn = true ∧ (es.map eventTurn).foldl afterTurn m = es.foldl afterEvent m := by
    intro es
    induction es with
    | nil => exact fun _ => ⟨rfl, rfl⟩
    | cons e es ih =>
      intro m
      cases e <;> exact ⟨by simp [eventTurn, hardwareTurn], by simpa [eventTurn, afterTurn, decode_eventCode] using (ih _).2⟩
  cases k <;> first | exact events _ m | exact ⟨rfl, rfl⟩

/-- The turns of a script are the hardware's own and leave the lines as its tokens do, one after the other (R98). -/
theorem scriptTurns_spec :
    ∀ (script : List Token) (m : MasterLines) (position : Nat) (turns : List Turn),
      scriptTurns m position script = .ok turns →
      turns.all hardwareTurn = true ∧ turns.foldl afterTurn m = script.foldl afterToken m := by
  intro script
  induction script with
  | nil => intro m n turns h; cases h; exact ⟨rfl, rfl⟩
  | cons k script ih =>
    intro m n turns h
    simp only [scriptTurns] at h
    split at h
    · split at h
      · rename_i later hlater
        cases h
        obtain ⟨ha, hf⟩ := ih _ _ _ hlater
        obtain ⟨hta, htf⟩ := tokenTurns_spec m k
        rw [List.all_append, List.foldl_append, hta, htf, ha, hf]
        exact ⟨rfl, rfl⟩
      · cases h
    · cases h

end Sys2Proof.Machine
end

