-- ==== Sys2Proof/Laws/Step.lean ====
section
/-! SUPPORT. What a step can be: the rule of the controller's phase, or a decoded word. Invariants over steps follow
from `stepWith_cases` and one fact about exec. -/

namespace Sys2Proof.Machine

@[simp] theorem placePhase_phaseInstr (p : Phase) (s : State) : placePhase (phaseInstr p) s = gotoPhase p s := by
  cases p <;> rfl

@[simp] theorem gotoPhase_phase_self (s : State) : gotoPhase s.phase s = s := rfl

@[simp] theorem outsideHardware_phaseInstr (p : Phase) (s : State) : outsideHardware (phaseInstr p) s = false := by
  cases p <;> rfl

/-- The controller fetches the rule of its phase and nothing else (R170). -/
theorem fetchPhase_eq (rest : List Turn) (s : State) :
    fetchPhase rest s = .run (phaseInstr s.phase) { s with agenda := rest } := by
  simp only [fetchPhase, fetchWord, decode_phaseCode, outsideHardware_phaseInstr, placePhase_phaseInstr]
  rfl

/-- A controller step is exec of the phase (R170). -/
theorem controllerStep_eq (s : State) : controllerStep s = exec (phaseInstr s.phase) s := by
  simp [controllerStep, fetchPhase_eq]

/-- Placing a phase changes the phase register alone. -/
theorem placePhase_cases (i : Instr) (s : State) :
    (∃ p, i = phaseInstr p ∧ placePhase i s = gotoPhase p s) ∨ ((∀ p, i ≠ phaseInstr p) ∧ placePhase i s = s) := by
  cases i <;>
    first
    | exact .inr ⟨by intro p; cases p <;> simp [phaseInstr], rfl⟩
    | exact .inl ⟨.idle, rfl, rfl⟩ | exact .inl ⟨.addrSdaIn, rfl, rfl⟩ | exact .inl ⟨.addrWaitSclLow, rfl, rfl⟩
    | exact .inl ⟨.addrBegin, rfl, rfl⟩ | exact .inl ⟨.addrWait, rfl, rfl⟩ | exact .inl ⟨.addrAbort, rfl, rfl⟩
    | exact .inl ⟨.addrCompare, rfl, rfl⟩ | exact .inl ⟨.addrReject, rfl, rfl⟩ | exact .inl ⟨.addrAck, rfl, rfl⟩
    | exact .inl ⟨.dispatch, rfl, rfl⟩ | exact .inl ⟨.rdSetInput, rfl, rfl⟩ | exact .inl ⟨.rdSample, rfl, rfl⟩
    | exact .inl ⟨.rdWaitAck, rfl, rfl⟩ | exact .inl ⟨.rdSend, rfl, rfl⟩ | exact .inl ⟨.rdWaitSend, rfl, rfl⟩
    | exact .inl ⟨.rdMack, rfl, rfl⟩ | exact .inl ⟨.rdWaitMack, rfl, rfl⟩ | exact .inl ⟨.rdRearm, rfl, rfl⟩
    | exact .inl ⟨.wrSetOutput, rfl, rfl⟩ | exact .inl ⟨.wrWaitAck, rfl, rfl⟩ | exact .inl ⟨.wrRecv, rfl, rfl⟩
    | exact .inl ⟨.wrWaitRecv, rfl, rfl⟩ | exact .inl ⟨.wrSack, rfl, rfl⟩ | exact .inl ⟨.wrWaitSack, rfl, rfl⟩
    | exact .inl ⟨.wrRearm, rfl, rfl⟩ | exact .inl ⟨.wrWrite, rfl, rfl⟩

/-- What the agenda can lead to: the controller's phase, a decoded word of the agenda, or a stop by name. The turns
left are all from the agenda; an event runs only when it is not held (R120). -/
theorem fetchTurn_cases (mw : Bool) (s : State) (turns : List Turn) :
    (∃ rest, rest ⊆ turns ∧ fetchTurn mw s turns = .run (phaseInstr s.phase) { s with agenda := rest }) ∨
    (∃ f w rest i, rest ⊆ turns ∧ .word f w ∈ turns ∧ decode f w = .ok i ∧
      (f = .ev2 → masterHeld mw s = false) ∧ outsideHardware i s = false ∧
      fetchTurn mw s turns = .run i (placePhase i { s with agenda := rest })) ∨
    (∃ r, fetchTurn mw s turns = .stop r) := by
  have word : ∀ (f : Format) (w : CodeWord) (rest all : List Turn), rest ⊆ all → .word f w ∈ all →
      (f = .ev2 → masterHeld mw s = false) →
      (∃ g v rest' i, rest' ⊆ all ∧ Turn.word g v ∈ all ∧ decode g v = .ok i ∧
        (g = .ev2 → masterHeld mw s = false) ∧ outsideHardware i s = false ∧
        fetchWord f w rest s = .run i (placePhase i { s with agenda := rest' })) ∨
      (∃ r, fetchWord f w rest s = .stop r) := by
    intro f w rest all hr hm hheld
    cases hd : decode f w with
    | error e => exact .inr ⟨.undecodable e, by simp [fetchWord, hd]⟩
    | ok i =>
      cases ho : outsideHardware i s with
      | true => exact .inr ⟨.writeAllInInputMode, by simp [fetchWord, hd, ho]⟩
      | false => exact .inl ⟨f, w, rest, i, hr, hm, hd, hheld, ho, by simp [fetchWord, hd, ho]⟩
  induction turns with
  | nil => exact .inl ⟨[], List.Subset.refl _, by simp [fetchTurn, fetchPhase_eq]⟩
  | cons head rest ih =>
    have hsub : rest ⊆ head :: rest := List.subset_cons_self _ _
    cases head with
    | controller => exact .inl ⟨rest, hsub, by simp [fetchTurn, fetchPhase_eq]⟩
    | settle =>
      cases hq : quiescent s with
      | false => exact .inl ⟨_, List.Subset.refl _, by simp [fetchTurn, hq, fetchPhase_eq]⟩
      | true =>
        have he : fetchTurn mw s (.settle :: rest) = fetchTurn mw s rest := by simp [fetchTurn, hq]
        rw [he]
        rcases ih with ⟨r, hr, h⟩ | ⟨f, w, r, i, hr, hm, h⟩ | h
        · exact .inl ⟨r, List.Subset.trans hr hsub, h⟩
        · exact .inr (.inl ⟨f, w, r, i, List.Subset.trans hr hsub, hsub hm, h⟩)
        · exact .inr (.inr h)
    | outside r => exact .inr (.inr ⟨_, rfl⟩)
    | word f w =>
      by_cases hf : f = .ev2
      · subst hf
        by_cases hh : masterHeld mw s = true
        · exact .inl ⟨_, List.Subset.refl _, by simp [fetchTurn, hh, fetchPhase_eq]⟩
        · replace hh : masterHeld mw s = false := by simpa using hh
          have he : fetchTurn mw s (.word .ev2 w :: rest) = fetchWord .ev2 w rest s := by simp [fetchTurn, hh]
          rw [he]
          exact .inr (word .ev2 w rest _ hsub List.mem_cons_self (fun _ => hh))
      · have he : fetchTurn mw s (.word f w :: rest) = fetchWord f w rest s := by
          cases f <;> first | exact absurd rfl hf | rfl
        rw [he]
        exact .inr (word f w rest _ hsub List.mem_cons_self (fun h => absurd h hf))

/-- Making a state ready for a word changes nothing where the instruction's conditions hold already (log 8). -/
theorem makeReady_of_ready (s : State) :
    (s.scl = true → makeReady .mScl0 s = s) ∧ (s.scl = false → makeReady .mScl1 s = s) ∧
    (s.sdaM = true → makeReady .mSda0 s = s) ∧ (s.sdaM = false → makeReady .mSda1 s = s) ∧
    (∀ b, s.portMode = .output → makeReady (.writeAll b) s = s) := by
  refine ⟨?_, ?_, ?_, ?_, ?_⟩ <;> intros <;> cases s <;> simp_all [makeReady, setScl, setSdaM]

/-- Where su_cnt is at most 8 the next step is the agenda's (R28, log 17). -/
theorem fetchNext_of_le {mw : Bool} {s : State} (h : s.suCnt ≤ 8) : fetchNext mw s = fetchTurn mw s s.agenda := by
  simp only [fetchNext, if_neg (BitVec.not_lt.2 h)]

/-- Where su_cnt is above 8 the step is refused (log 17). -/
theorem stepWith_of_counter_above {mw : Bool} {s : State} (h : 8 < s.suCnt) :
    stepWith mw s = .refused .counterAboveEight := by
  simp only [stepWith, fetchNext, if_pos h]

/-- The counter invariant keeps every count from being refused. -/
theorem countRefused_of_shiftInv {s : State} (h : ShiftInv s) : countRefused s = false := by
  cases hc : countRefused s with
  | false => rfl
  | true =>
    obtain ⟨⟨hm, ho⟩, h8⟩ := (countRefused_iff s).1 hc
    have hlt := h.2.2.1 hm ho
    cases hl : s.suLen <;> simp only [hl, suLenVal] at hlt <;> bv_omega

/-- A step that has a next state is exec of the controller's phase, or of a word of the agenda. -/
theorem stepWith_cases {mw : Bool} {s t : State} (h : stepWith mw s = .next t) :
    (∃ rest, rest ⊆ s.agenda ∧ exec (phaseInstr s.phase) { s with agenda := rest } = .next t) ∨
    (∃ f w rest i, rest ⊆ s.agenda ∧ .word f w ∈ s.agenda ∧ decode f w = .ok i ∧
      (f = .ev2 → masterHeld mw s = false) ∧ outsideHardware i s = false ∧
      exec i (placePhase i { s with agenda := rest }) = .next t) := by
  by_cases hcnt : 8 < s.suCnt
  · rw [stepWith_of_counter_above hcnt] at h
    cases h
  unfold stepWith at h
  rw [fetchNext_of_le (BitVec.not_lt.1 hcnt)] at h
  rcases fetchTurn_cases mw s s.agenda with ⟨rest, hr, he⟩ | ⟨f, w, rest, i, hr, hm, hd, hh, ho, he⟩ | ⟨r, he⟩
  · rw [he] at h
    exact .inl ⟨rest, hr, h⟩
  · rw [he] at h
    exact .inr ⟨f, w, rest, i, hr, hm, hd, hh, ho, h⟩
  · rw [he] at h
    cases h

/-- The turns left of an agenda of the hardware's own agents are the hardware's own. -/
theorem hardwareAgenda_subset {s t : State} (h : HardwareAgenda s) (ht : t.agenda ⊆ s.agenda) : HardwareAgenda t := by
  simp only [HardwareAgenda, List.all_eq_true] at *
  exact fun x hx => h x (ht hx)

/-- A step of an agenda of the hardware's own agents is the controller's phase or a master event that is not held. -/
theorem stepWith_hardware_cases {mw : Bool} {s t : State} (ha : HardwareAgenda s) (h : stepWith mw s = .next t) :
    (∃ rest, rest ⊆ s.agenda ∧ exec (phaseInstr s.phase) { s with agenda := rest } = .next t) ∨
    (∃ i rest, rest ⊆ s.agenda ∧ (i = .mScl0 ∨ i = .mScl1 ∨ i = .mSda0 ∨ i = .mSda1) ∧
      masterHeld mw s = false ∧ exec i { s with agenda := rest } = .next t) := by
  rcases stepWith_cases h with hc | ⟨f, w, rest, i, hr, hm, hd, hh, -, he⟩
  · exact .inl hc
  · have hf : f = .ev2 := by
      have := List.all_eq_true.1 ha _ hm
      simpa [hardwareTurn] using this
    subst hf
    have hi := decode_ev2_cases hd
    refine .inr ⟨i, rest, hr, hi, hh rfl, ?_⟩
    rcases hi with rfl | rfl | rfl | rfl <;> exact he

/-- exec writes no turn: the agenda is the step's own affair. -/
theorem exec_agenda {i : Instr} {s t : State} (h : exec i s = .next t) : t.agenda = s.agenda := by
  cases i <;>
    simp only [exec, execAddrWrite, execAddrRead, execAddrOther, execData, execMScl0, execMScl1, execMSda0, execMSda1,
      execArm, execBeginAddr, execSdaIn, execSendAck, execReadAck, execSendByte, execRecvByte, execSetInput,
      execSetOutput, execWriteAll, execReadAll, execIdle, execAddrSdaIn, execAddrWaitSclLow, execAddrBegin,
      execAddrWait, execAddrAbort, execAddrCompare, execAddrReject, execAddrAck, execDispatch, execRdSetInput,
      execRdSample, execRdWaitAck, execRdSend, execRdWaitSend, execRdMack, execRdWaitMack, execRdRearm,
      execWrSetOutput, execWrWaitAck, execWrRecv, execWrWaitRecv, execWrSack, execWrWaitSack, execWrRearm,
      execWrWrite] at h <;>
    (repeat' split at h) <;>
    first
    | (rw [commit_next_iff] at h; subst h; simp)
    | cases h

/-- An invariant that every step keeps holds wherever a run of the machine ends. -/
theorem run_keeps {Inv : State → Prop} (keep : ∀ s t, Inv s → step s = .next t → Inv t) :
    ∀ k s t, Inv s → Host.Core.run Sys2Proof.core k s = .next t → Inv t := by
  intro k
  induction k with
  | zero =>
    intro s t hs h
    cases h
    exact hs
  | succ k ih =>
    intro s t hs h
    have hstep : Sys2Proof.core.step s = step s := rfl
    cases hn : step s with
    | next u =>
      refine ih u t (keep s u hs hn) ?_
      simpa [Host.Core.run, hstep, hn] using h
    | fault r => simp [Host.Core.run, hstep, hn] at h
    | refused r => simp [Host.Core.run, hstep, hn] at h

end Sys2Proof.Machine
end

