-- ==== Sys2Proof/Tests/Slice0.lean ====
section
/-! SUPPORT. The model's own tests: the well-formedness check, decoding of words written out from the tables of
spec/30_encoding.md, single steps from the vectors of spec/95_test_vectors.md (cited as T..), and for every
obligation with hypotheses a state that meets them. -/

namespace Sys2Proof.Tests

open Sys2Proof Sys2Proof.Machine

/-- The next state of an outcome, if it is one. -/
def got (o : Host.Outcome State Fault Refusal) : Option State :=
  match o with
  | .next s => some s
  | .fault _ => none
  | .refused _ => none

/-- The refusal of an outcome, if it is one. -/
def stopped (o : Host.Outcome State Fault Refusal) : Option Refusal :=
  match o with
  | .next _ => none
  | .fault _ => none
  | .refused r => some r

/-- The instruction a word decodes to, if it does. -/
def reads (f : Format) (w : CodeWord) : Option Instr :=
  match decode f w with
  | .ok i => some i
  | .error _ => none

/-- The three flags as the vectors write them: f_start, f_ovf, f_stop. -/
def flags (s : State) : Bool × Bool × Bool := (s.fStart, s.fOvf, s.fStop)

/-- Reset with SCL low. -/
def low : State := { State.reset with scl := false }

/-- The port in Output mode, showing 0xA5. -/
def driving : State :=
  { State.reset with portMode := .output, g1Dir := 0x8F, g1Out := 0x85, g2Dir := 0x07, g2Out := 0x02, ind := true }

/-- A byte being received, SCL low. -/
def receiving : State := { low with suMode := .rx, phase := .addrWait }

/-- A byte being sent, SCL high. -/
def sending : State := { State.reset with suMode := .tx }

/-! ### Well-formedness: the one check -/

theorem test_addr_other_may_not_carry_the_device_address :
    ¬ WellFormed (.addrOther 0x42 false) ∧ ¬ WellFormed (.addrOther 0x42 true) := by decide

theorem test_addr_other_with_neighbour_addresses_is_well_formed :
    WellFormed (.addrOther 0x41 true) ∧ WellFormed (.addrOther 0x43 false) ∧ WellFormed (.addrOther 0x00 false) := by
  decide

/-! ### Decoding, word by word (R83, R84, R92 to R95) -/

/-- T30.1: 0x84 and 0x85 match, 0x86, 0x83, 0x42 and 0x00 do not. -/
theorem test_decode_address_bytes :
    reads .addr8 0b1000010_0 = some .addrWrite ∧ reads .addr8 0b1000010_1 = some .addrRead ∧
    reads .addr8 0b1000011_0 = some (.addrOther 0x43 false) ∧
    reads .addr8 0b1000001_1 = some (.addrOther 0x41 true) ∧
    reads .addr8 0b0100001_0 = some (.addrOther 0x21 false) ∧
    reads .addr8 0b0000000_0 = some (.addrOther 0x00 false) := by decide

theorem test_decode_data : reads .data8 0b0011_1100 = some (.data 0x3C) := by decide

theorem test_decode_events :
    reads .ev2 0b00 = some .mScl0 ∧ reads .ev2 0b01 = some .mScl1 ∧ reads .ev2 0b10 = some .mSda0 ∧
    reads .ev2 0b11 = some .mSda1 := by decide

theorem test_decode_shift_commands :
    reads .scmd12 0b0001_0000_0000 = some .arm ∧ reads .scmd12 0b0010_0000_0000 = some .beginAddr ∧
    reads .scmd12 0b0011_0000_0000 = some .sdaIn ∧ reads .scmd12 0b0100_0000_0000 = some .sendAck ∧
    reads .scmd12 0b0101_0000_0000 = some .readAck ∧ reads .scmd12 0b0110_1010_0011 = some (.sendByte 0xA3) ∧
    reads .scmd12 0b0111_0000_0000 = some .recvByte := by decide

theorem test_decode_port_commands :
    reads .pcmd12 0b1000_0000_0000 = some .setInput ∧ reads .pcmd12 0b1001_0000_0000 = some .setOutput ∧
    reads .pcmd12 0b1010_0101_1010 = some (.writeAll 0x5A) ∧ reads .pcmd12 0b1011_0000_0000 = some .readAll := by
  decide

theorem test_decode_address_phases :
    reads .phase5 0b00000 = some .idle ∧ reads .phase5 0b00001 = some .addrSdaIn ∧
    reads .phase5 0b00010 = some .addrWaitSclLow ∧ reads .phase5 0b00011 = some .addrBegin ∧
    reads .phase5 0b00100 = some .addrWait ∧ reads .phase5 0b00101 = some .addrAbort ∧
    reads .phase5 0b00110 = some .addrCompare ∧ reads .phase5 0b00111 = some .addrReject ∧
    reads .phase5 0b01000 = some .addrAck := by decide

theorem test_decode_read_phases :
    reads .phase5 0b01001 = some .dispatch ∧ reads .phase5 0b01010 = some .rdSetInput ∧
    reads .phase5 0b01011 = some .rdSample ∧ reads .phase5 0b01100 = some .rdWaitAck ∧
    reads .phase5 0b01101 = some .rdSend ∧ reads .phase5 0b01110 = some .rdWaitSend ∧
    reads .phase5 0b01111 = some .rdMack ∧ reads .phase5 0b10000 = some .rdWaitMack ∧
    reads .phase5 0b10001 = some .rdRearm := by decide

theorem test_decode_write_phases :
    reads .phase5 0b10010 = some .wrSetOutput ∧ reads .phase5 0b10011 = some .wrWaitAck ∧
    reads .phase5 0b10100 = some .wrRecv ∧ reads .phase5 0b10101 = some .wrWaitRecv ∧
    reads .phase5 0b10110 = some .wrSack ∧ reads .phase5 0b10111 = some .wrWaitSack ∧
    reads .phase5 0b11000 = some .wrRearm ∧ reads .phase5 0b11001 = some .wrWrite := by decide

/-- R90: reserved codes, an operand that must be 0x00, and a word wider than its format are refused. -/
theorem test_reserved_words_are_refused :
    reads .scmd12 0x000 = none ∧ reads .scmd12 0x800 = none ∧ reads .scmd12 0x101 = none ∧
    reads .pcmd12 0x700 = none ∧ reads .pcmd12 0xC00 = none ∧ reads .pcmd12 0xB01 = none ∧
    reads .phase5 26 = none ∧ reads .phase5 31 = none ∧ reads .phase5 32 = none ∧ reads .ev2 4 = none ∧
    reads .addr8 0x184 = none ∧ reads .scmd12 0x1100 = none := by decide

/-- The rows as the table gives them, and the format the model takes where formats overlap (log 9). -/
theorem test_decode_table_word :
    decodeTableWord 8 0x84 = some .addrWrite ∧ decodeTableWord 8 0x90 = some (.addrOther 0x48 false) ∧
    decodeTableWord 8 10 = some .rdSetInput ∧ decodeTableWord 5 11 = some .rdSample ∧
    decodeTableWord 2 3 = some .mSda1 ∧ decodeTableWord 12 0xA5A = some (.writeAll 0x5A) ∧
    decodeTableWord 16 0x6A3 = some (.sendByte 0xA3) ∧ decodeTableWord 7 0 = none ∧
    decodeTableWord 16 0x10000 = none := by decide

/-! ### Master events and the shift unit (T40) -/

/-- T40.1 and T40.10: the wired-AND is sampled into bit 0. -/
theorem test_rising_edge_samples :
    (got (exec .mScl1 { receiving with sr := 0x21 })).map (·.sr) = some 0x43 ∧
    (got (exec .mScl1 { receiving with suMode := .tx, sr := 0x80, sdaM := false })).map (·.sr) = some 0x00 := by
  decide

/-- T40.5 and T40.6: no sample after overflow or in WATCH. -/
theorem test_rising_edge_holds :
    (got (exec .mScl1 { receiving with fOvf := true, suCnt := 8, sr := 0xA5, sdaM := false })).map (·.sr) = some 0xA5 ∧
    (got (exec .mScl1 { low with sr := 0x5A })).map (·.sr) = some 0x5A := by decide

/-- T40.2 and T40.4: overflow at the configured count, the presented bit held. -/
theorem test_falling_edge_overflows :
    (got (exec .mScl0 { sending with suMode := .rx, suCnt := 7 })).map (fun t => (t.suCnt, t.fOvf)) = some (8, true) ∧
    (got (exec .mScl0 { sending with suLen := .one, sdaS := false })).map (fun t => (t.suCnt, t.fOvf, t.sdaS)) =
      some (1, true, false) := by decide

/-- 93_implementation_defined.md section 1: a count above 8 is refused, by the edge and by the step. -/
theorem test_count_above_eight_is_refused :
    stopped (exec .mScl0 { sending with suCnt := 8 }) = some .counterAboveEight ∧
    stopped (stepWith true { low with suCnt := 9 }) = some .counterAboveEight ∧
    stopped (stepWith true { low with suCnt := 8 }) = none := by decide

/-- T40.3: the next transmitted bit is bit 7. -/
theorem test_falling_edge_presents :
    (got (exec .mScl0 { sending with sr := 0x47 })).map (fun t => (t.suCnt, t.sdaS)) = some (1, false) := by decide

/-- T40.7 and T40.11: a start needs SCL high. -/
theorem test_sda_fall_is_a_start_only_under_high_scl :
    (got (exec .mSda0 State.reset)).map flags = some (true, false, false) ∧
    (got (exec .mSda0 { receiving with suCnt := 3 })).map flags = some (false, false, false) := by decide

/-- T40.8 and T40.9: a stop needs the slave to have released SDA. -/
theorem test_sda_rise_is_a_stop_only_when_released :
    (got (exec .mSda1 { State.reset with sdaM := false })).map flags = some (false, false, true) ∧
    (got (exec .mSda1 { sending with sdaM := false, sdaS := false })).map flags = some (false, false, false) := by
  decide

/-- T40.13: a late SEND_ACK makes a start itself (R277). -/
theorem test_late_acknowledge_makes_a_start :
    (got (exec .addrAck { State.reset with phase := .addrAck })).map (·.fStart) = some true := by decide

/-- T40.14: ARM clears, then the detector sets (R115). -/
theorem test_arm_releasing_under_high_scl_makes_a_stop :
    (got (exec .wrRearm { sending with phase := .wrRearm, fStart := true, fOvf := true, sdaS := false })).map flags =
      some (false, false, true) := by decide

/-! ### Commands (T41) -/

/-- T41.1. -/
theorem test_arm :
    (got (exec .arm { low with suMode := .tx, suLen := .one, suCnt := 1, fOvf := true, fStop := true, sdaS := false })).map
      (fun t => (t.suMode, t.suLen, t.suCnt, t.sdaS)) = some (.watch, .one, 0, true) ∧
    (got (exec .arm { low with fStart := true, fOvf := true, fStop := true })).map flags =
      some (false, false, false) := by decide

/-- T41.3. -/
theorem test_begin_addr :
    (got (exec .beginAddr { low with suLen := .one, fStart := true, fStop := true })).map
      (fun t => (t.suMode, t.suLen, t.suCnt, flags t)) = some (.rx, .eight, 0, (false, false, false)) := by decide

/-- T41.4. -/
theorem test_sda_in : got (exec .sdaIn low) = some low := by decide

/-- T41.5. -/
theorem test_send_ack :
    (got (exec .sendAck { receiving with suCnt := 8, fOvf := true, fStop := true, sr := 0x84 })).map
      (fun t => (t.suLen, t.suCnt, t.fOvf, t.fStop, t.sr, t.sdaS)) =
      some (.one, 0, false, true, 0x00, false) := by decide

/-- T41.6: sr is kept. -/
theorem test_read_ack :
    (got (exec .readAck { low with suMode := .tx, suCnt := 8, fOvf := true, sr := 0xA3 })).map
      (fun t => (t.suMode, t.suLen, t.suCnt, t.fOvf, t.sr, t.sdaS)) = some (.rx, .one, 0, false, 0xA3, true) := by decide

/-- T41.7 and T41.8: bit 7 is presented at once. -/
theorem test_send_byte :
    (got (exec (.sendByte 0xA3) { low with suMode := .tx, suLen := .one, fOvf := true, sdaS := false })).map
      (fun t => (t.suLen, t.fOvf, t.sr, t.sdaS)) = some (.eight, false, 0xA3, true) ∧
    (got (exec (.sendByte 0x00) { low with suMode := .tx, sdaS := false })).map (·.sdaS) = some false := by decide

/-- T41.10. -/
theorem test_recv_byte :
    (got (exec .recvByte { low with suMode := .tx, suLen := .one, fOvf := true, sdaS := false })).map
      (fun t => (t.suMode, t.suLen, t.suCnt, t.fOvf, t.sdaS)) = some (.rx, .eight, 0, false, true) := by decide

/-! ### Sequencer steps (T42) -/

/-- T42.1 and T42.2. -/
theorem test_idle :
    (got (exec .idle State.reset)).map (·.phase) = some .idle ∧
    (got (exec .idle { State.reset with fStart := true })).map (·.phase) = some .addrSdaIn := by decide

/-- T42.3 and T41.14. -/
theorem test_addr_wait_scl_low :
    (got (exec .addrWaitSclLow { State.reset with phase := .addrWaitSclLow })).map (·.phase) = some .addrWaitSclLow ∧
    (got (exec .addrWaitSclLow { low with phase := .addrWaitSclLow })).map (·.phase) = some .addrBegin := by decide

/-- T42.4 and T42.5: the stop wins. -/
theorem test_addr_wait :
    (got (exec .addrWait { receiving with fOvf := true, fStop := true })).map (·.phase) = some .addrAbort ∧
    (got (exec .addrWait { receiving with fOvf := true })).map (·.phase) = some .addrCompare := by decide

/-- T42.6 and T42.7. -/
theorem test_addr_compare :
    (got (exec .addrCompare { receiving with phase := .addrCompare, sr := 0x90 })).map (·.phase) = some .addrReject ∧
    (got (exec .addrCompare { receiving with phase := .addrCompare, sr := 0x85 })).map (fun t => (t.phase, t.dir)) =
      some (.addrAck, .read) := by decide

/-- T42.8 and T30.1 on the address rows. -/
theorem test_address_rows :
    (got (exec .addrWrite { receiving with dir := .read })).map (fun t => (t.phase, t.dir)) = some (.addrAck, .write) ∧
    (got (exec .addrRead receiving)).map (fun t => (t.phase, t.dir)) = some (.addrAck, .read) ∧
    (got (exec (.addrOther 0x48 true) receiving)).map (fun t => (t.phase, t.dir)) = some (.addrReject, .write) := by
  decide

/-- T42.9. -/
theorem test_addr_abort_and_reject :
    (got (exec .addrAbort { receiving with fStop := true })).map (fun t => (t.phase, t.suMode, t.fStop)) =
      some (.idle, .watch, false) ∧
    (got (exec .addrReject { receiving with fOvf := true })).map (fun t => (t.phase, t.suMode, t.fOvf)) =
      some (.idle, .watch, false) := by decide

/-- T42.10. -/
theorem test_addr_ack :
    (got (exec .addrAck { receiving with phase := .addrAck })).map (fun t => (t.phase, t.suMode, t.sdaS)) =
      some (.dispatch, .tx, false) := by decide

/-- T42.12. -/
theorem test_rd_send :
    (got (exec .rdSend { low with phase := .rdSend, xfer := 0x3C })).map (fun t => (t.phase, t.sr, t.sdaS)) =
      some (.rdWaitSend, 0x3C, false) := by decide

/-- T42.15: no branch on a NACK. -/
theorem test_rd_wait_mack :
    (got (exec .rdWaitMack { low with phase := .rdWaitMack, fOvf := true, sr := 0x01 })).map (·.phase) =
      some .rdRearm := by decide

/-- T42.19: the received byte is kept. -/
theorem test_wr_wait_recv :
    (got (exec .wrWaitRecv { low with phase := .wrWaitRecv, fOvf := true, sr := 0xA5 })).map
      (fun t => (t.phase, t.xfer)) = some (.wrSack, 0xA5) := by decide

/-- T42.20: SEND_ACK clears sr, the kept byte stays. -/
theorem test_wr_sack :
    (got (exec .wrSack { low with phase := .wrSack, xfer := 0xA5, sr := 0xA5 })).map
      (fun t => (t.phase, t.xfer, t.sr, t.sdaS)) = some (.wrWaitSack, 0xA5, 0x00, false) := by decide

/-! ### Port and Poller (T43, T44) -/

/-- T43.1: the latch is unchanged, the pins drive it. -/
theorem test_set_output :
    (got (exec .setOutput State.reset)).map (fun t => (t.portMode, t.g1Dir, t.g2Dir, t.g1Out, t.g2Out, t.ind)) =
      some (.output, 0x8F, 0x07, 0x00, 0x00, true) := by decide

/-- T43.2. -/
theorem test_set_input :
    (got (exec .setInput { driving with g1Out := 0x8A, g2Out := 0x05 })).map
      (fun t => (t.portMode, t.g1Dir, t.g2Dir, t.g1Out, t.g2Out, t.ind)) =
      some (.input, 0x00, 0x00, 0x00, 0x00, false) := by decide

/-- T43.5 and T43.6: the byte is mapped, unmapped bits are kept. -/
theorem test_write_all :
    (got (exec (.writeAll 0x5A) driving)).map (fun t => (t.g1Out, t.g2Out)) = some (0x0A, 0x05) ∧
    (got (exec (.writeAll 0x00) { driving with g1Out := 0xF5, g2Out := 0xFA })).map (fun t => (t.g1Out, t.g2Out)) =
      some (0x70, 0xF8) := by decide

/-- T43.7, T43.8 and T43.9: the byte a read returns, for given levels on the pins. -/
theorem test_read_all :
    readAllFrom 0xF3 0xFA State.reset = 0xA3 ∧ readAllFrom 0x70 0x0F State.reset = 0x70 ∧
    readAllFrom 0x3A 0xFD driving = 0xA5 := by decide

/-- READ_ALL runs from reset, writing no field of the block. -/
theorem test_read_all_runs :
    (got (exec .readAll State.reset)).map (fun t => (t.samples, t.xfer, t.portMode)) = some (1, 0x00, .input) := by
  decide

/-- T44.1 to T44.4. -/
theorem test_dispatch :
    (got (exec .dispatch { low with dir := .read })).map (·.phase) = some .rdSample ∧
    (got (exec .dispatch { driving with dir := .read })).map (·.phase) = some .rdSetInput ∧
    (got (exec .dispatch driving)).map (·.phase) = some .wrWaitAck ∧
    (got (exec .dispatch low)).map (·.phase) = some .wrSetOutput := by decide

/-- T44.5. -/
theorem test_wr_write :
    (got (exec .wrWrite { driving with phase := .wrWrite, g1Out := 0, g2Out := 0, xfer := 0xA5 })).map
      (fun t => (t.phase, t.g1Out, t.g2Out)) = some (.idle, 0x85, 0x02) := by decide

/-- R200: a driven pin shows its latch, a released one nothing, and a pin outside the masks never the block's. -/
theorem test_drive :
    drive driving .g1 7 = some true ∧ drive driving .g1 1 = some false ∧ drive driving .g1 4 = none ∧
    drive State.reset .g1 0 = none := by decide

/-! ### Scripts (T30.4) and fetching -/

theorem test_script_tokens :
    (tokenEvents { scl := true, sdaM := true } .start).map eventCode = [0b10, 0b00] ∧
    (tokenEvents { scl := false, sdaM := false } .readAck).map eventCode = [0b11, 0b01, 0b00] ∧
    (tokenEvents { scl := false, sdaM := true } .masterAck).map eventCode = [0b10, 0b01, 0b00] ∧
    (tokenEvents { scl := false, sdaM := true } .stop).map eventCode = [0b10, 0b01, 0b11] ∧
    (tokenEvents { scl := false, sdaM := false } .repeatedStart).map eventCode = [0b11, 0b01, 0b10, 0b00] := by
  decide

theorem test_script_address_byte :
    (tokenEvents { scl := false, sdaM := false } (.write8 0x84)).map eventCode =
      [0b11, 0b01, 0b00, 0b10, 0b01, 0b00, 0b01, 0b00, 0b01, 0b00, 0b01, 0b00, 0b11, 0b01, 0b00, 0b10, 0b01, 0b00,
        0b01, 0b00] := by decide

/-- R98: a script whose second token is not enabled is refused at that token; P1's own tokens load. -/
theorem test_load_script :
    stopped (loadScript [.start, .start] State.reset) = some (.scriptToken 1) ∧
    (got (loadScript [.start, .write8 0x84, .readAck, .ctl] State.reset)).map (·.agenda.length) = some 26 := by decide

/-- A row of each format runs as the first instruction after reset. -/
theorem test_with_fetch_word_runs :
    (got (stepWith true (State.reset.withFetchWord 12 0x6A3))).map (·.sr) = some 0xA3 ∧
    (got (stepWith true (State.reset.withFetchWord 12 0xA5A))).map (·.g1Out) = some 0x0A ∧
    (got (stepWith true (State.reset.withFetchWord 2 0b01))).map (·.scl) = some true ∧
    (got (stepWith true (State.reset.withFetchWord 5 20))).map (·.phase) = some .wrWaitRecv ∧
    (got (stepWith true (State.reset.withFetchWord 8 0x85))).map (·.phase) = some .addrAck := by decide

/-! ### Witnesses: the hypotheses of every obligation can be met -/

/-- Where a step has a next state, some state is it. -/
theorem next_of_got {o : Host.Outcome State Fault Refusal} (h : (got o).isSome = true) : ∃ t, o = .next t := by
  cases o <;> simp_all [got]

theorem witness_encoding :
    WellFormed (.addrOther 0x7F true) ∧ WellFormed (.sendByte 0xFF) ∧ decode .phase5 25 = .ok .wrWrite ∧
    (0x83 : Byte) ≠ 0x84 ∧ (0x83 : Byte) ≠ 0x85 := by
  refine ⟨by decide, by decide, rfl, by decide, by decide⟩

theorem witness_step_of_the_controller :
    State.reset.suCnt ≤ 8 ∧ State.reset.agenda = [] ∧ { driving with agenda := [.controller, .settle] }.agenda = .controller :: [.settle] :=
  ⟨by decide, rfl, rfl⟩

theorem witness_step_of_an_event :
    State.reset.suCnt ≤ 8 ∧ decode .ev2 0b10 = .ok .mSda0 ∧ quiescent { State.reset with agenda := [.word .ev2 0b10] } = true ∧
    ∀ p, Instr.mSda0 ≠ phaseInstr p := by
  refine ⟨by decide, rfl, by decide, fun p => by cases p <;> decide⟩

theorem witness_step_of_a_handed_word :
    driving.suCnt ≤ 8 ∧ decode .pcmd12 0xA5A = .ok (.writeAll 0x5A) ∧ driving.portMode = .output ∧
    (∀ p, Instr.writeAll 0x5A ≠ phaseInstr p) ∧ decode .phase5 9 = .ok (phaseInstr .dispatch) := by
  refine ⟨by decide, rfl, by decide, fun p => by cases p <;> decide, rfl⟩

theorem witness_controller_goes_first :
    receiving.suCnt ≤ 8 ∧
    quiescent { receiving with fOvf := true, agenda := [.word .ev2 0b01] } = false ∧
    quiescent { receiving with fOvf := true, agenda := [.settle] } = false ∧
    quiescent { receiving with agenda := [.settle] } = true := by decide

theorem witness_outside_requests :
    decode .scmd12 0x000 = .error (.reservedCode .scmd12 0x000) ∧ decode .pcmd12 0xAFF = .ok (.writeAll 0xFF) ∧
    { State.reset with agenda := [.word .pcmd12 0xAFF] }.portMode = .input ∧ State.reset.suCnt ≤ 8 :=
  ⟨rfl, rfl, rfl, by decide⟩

/-- The longest chain starts here. -/
theorem witness_longest_chain :
    let s := { driving with phase := .addrWait, fOvf := true, sr := 0x85 }
    s.phase = .addrWait ∧ s.fStop = false ∧ s.fOvf = true ∧ s.sr = 0x85 ∧ s.portMode = .output := by decide

theorem witness_edges :
    receiving.scl = false ∧ receiving.suMode = .rx ∧ receiving.fOvf = false ∧ sending.scl = true ∧
    sending.suMode = .tx ∧ { sending with suCnt := 7 }.suCnt + 1 = 8 := by decide

theorem witness_event_levels :
    State.reset.scl = true ∧ State.reset.sdaM = true ∧ low.scl = false ∧
    { low with sdaM := false }.sdaM = false := by decide

theorem witness_hold :
    ({ receiving with fOvf := true }.fOvf = true ∧ receiving.scl = false) ∧
    (low.suMode = .watch ∧ low.scl = false) ∧ (State.reset.suMode = .watch ∧ State.reset.scl = true) := by decide

theorem witness_bus_master_changes :
    (∃ t, exec (eventInstr .scl0) { sending with sr := 0x47 } = .next t ∧ t.sdaS = false ∧ t.suCnt = 1) ∧
    (∃ t, exec (eventInstr .scl1) receiving = .next t ∧ t.sr ≠ receiving.sr) := by
  refine ⟨⟨_, rfl, by decide, by decide⟩, ⟨_, rfl, by decide⟩⟩

theorem witness_flags_set_and_cleared :
    (∃ t, exec .mSda0 State.reset = .next t ∧ t.fStart = true) ∧
    (∃ t, exec .mSda1 { State.reset with sdaM := false } = .next t ∧ t.fStop = true) ∧
    (∃ t, exec .arm { low with fStart := true, fStop := true } = .next t ∧ t.fStart = false ∧ t.fStop = false) := by
  refine ⟨⟨_, rfl, by decide⟩, ⟨_, rfl, by decide⟩, ⟨_, rfl, by decide, by decide⟩⟩

theorem witness_overflow_raised_and_cleared :
    (∃ t, exec .mScl0 { sending with suCnt := 7 } = .next t ∧ t.fOvf = true) ∧
    (∃ t, exec .sendAck { receiving with suCnt := 8, fOvf := true } = .next t ∧ t.fOvf = false) ∧
    (∃ t, exec (.data 0x3C) { low with dir := .read, fOvf := true } = .next t ∧ t.fOvf = false) := by
  refine ⟨⟨_, rfl, by decide⟩, ⟨_, rfl, by decide⟩, ⟨_, rfl, by decide⟩⟩

theorem witness_unread_flags :
    (∃ t, controllerStep receiving = .next t) ∧ receiving.phase ≠ .idle ∧
    (∃ t, controllerStep State.reset = .next t) ∧ State.reset.phase ≠ .addrWait := by
  refine ⟨⟨_, rfl⟩, by decide, ⟨_, rfl⟩, by decide⟩

theorem witness_arm_again :
    (∃ t, exec .arm low = .next t) ∧ low.scl = false ∧
    (∃ t, exec .arm { sending with sdaM := false, sdaS := false } = .next t) ∧
    (∃ t, exec .arm sending = .next t) ∧ sending.sdaS = true := by
  refine ⟨⟨_, rfl⟩, by decide, ⟨_, rfl⟩, ⟨_, rfl⟩, by decide⟩

theorem witness_port_invariant :
    (PortInv State.reset ∧ State.reset.portMode = .input) ∧ (PortInv driving ∧ driving.portMode = .output) := by decide

theorem witness_unmapped_bits_survive :
    ∃ t, exec .setInput { driving with g1Out := 0xF5 } = .next t ∧ t.g1Out = 0x70 := ⟨_, rfl, by decide⟩

theorem witness_mode_unchanged :
    Instr.wrWrite ∉ [Instr.setInput, .setOutput, .rdSetInput, .wrSetOutput] ∧
    ∃ t, exec .wrWrite driving = .next t := ⟨by decide, _, rfl⟩

theorem witness_frames :
    WellFormed (.addrOther 0x43 true) ∧ low.dir = .write ∧ { low with dir := .read }.dir = .read := by decide

theorem witness_sequencer_writers :
    (∃ t, exec .addrCompare { receiving with sr := 0x85 } = .next t ∧ t.dir = .read) ∧
    (∃ t, exec .wrWaitRecv { low with fOvf := true, sr := 0xA5 } = .next t ∧ t.xfer = 0xA5) ∧
    (∃ t, exec .recvByte low = .next t) := by
  refine ⟨⟨_, rfl, by decide⟩, ⟨_, rfl, by decide⟩, ⟨_, rfl⟩⟩

/-- A mode switch on the way, and a Write that needs none. -/
theorem witness_mode_switch :
    BlockInv { low with phase := .wrSetOutput } ∧
    (∃ t, controllerStep { low with phase := .wrSetOutput } = .next t ∧ t.portMode = .output) ∧
    BlockInv { driving with phase := .dispatch } ∧ (∃ t, controllerStep { driving with phase := .dispatch } = .next t) :=
  ⟨by decide, ⟨_, rfl, rfl⟩, by decide, ⟨_, rfl⟩⟩

theorem witness_source_sequence :
    ∃ t, controllerStep { low with phase := .addrReject } = .next t ∧ busPhase t.phase = .idle := ⟨_, rfl, rfl⟩

/-- A launch with draws of its own and a start to come. -/
theorem witness_launch :
    Launch { State.resetWith .read 0x12 0x34 .one with agenda := [.word .ev2 0b10, .settle, .controller] } :=
  ⟨.read, 0x12, 0x34, .one, _, rfl, by decide⟩

theorem witness_block_step :
    let s := { driving with phase := .wrWrite, xfer := 0x3C, agenda := [.controller, .word .ev2 0b01] }
    BlockInv s ∧ ∃ t, stepWith false s = .next t ∧ t.g1Out = 0x0C := ⟨by decide, _, rfl, by decide⟩

/-- The step of the hardware itself has a next state, whatever MASTER_WAITS is. -/
theorem witness_hardware_step :
    BlockInv State.reset ∧ ShiftInv State.reset ∧ step State.reset = .next State.reset := ⟨by decide, by decide, rfl⟩

theorem witness_counter_step :
    let s := { sending with suCnt := 7, phase := .rdWaitSend, agenda := [.word .ev2 0b00] }
    ShiftInv s ∧ ∃ t, stepWith false s = .next t ∧ t.suCnt = 8 ∧ t.fOvf = true := ⟨by decide, _, rfl, rfl, rfl⟩

/-- A timely state in which an event waits for the controller, which moves SDA under a low SCL. -/
theorem witness_timely_step :
    let s := { receiving with phase := .addrAck, fOvf := true, suCnt := 8, agenda := [.word .ev2 0b01] }
    TimelyInv s ∧ (∃ t, stepWith true s = .next t ∧ t.sdaS = false ∧ t.scl = false) ∧
    ∃ t, controllerStep s = .next t ∧ t.sdaS ≠ s.sdaS :=
  ⟨by decide, ⟨_, rfl, rfl, rfl⟩, _, rfl, by decide⟩

theorem witness_receiver :
    receiving.scl = false ∧ receiving.suMode = .rx ∧ receiving.suLen = .eight ∧ receiving.suCnt = 0 ∧
    receiving.fOvf = false ∧ receiving.sdaS = true := by decide

theorem witness_mismatch :
    let s := { receiving with phase := .addrCompare, sr := 0x90, fOvf := true, suCnt := 8 }
    s.phase = .addrCompare ∧ s.sr ≠ 0x84 ∧ s.sr ≠ 0x85 ∧ s.scl = false := by decide

theorem witness_stop :
    let s := { receiving with scl := true, fStop := true, fOvf := true, suCnt := 8 }
    s.phase = .addrWait ∧ s.fStop = true ∧ s.sdaS = true := by decide

theorem witness_master_acknowledge :
    ∃ t, controllerRun 2 { low with phase := .rdWaitMack, fOvf := true, suCnt := 1 } = .next t ∧ t.phase = .idle :=
  ⟨_, rfl, rfl⟩

theorem witness_commuting_steps :
    (∃ t, exec (eventInstr .scl1) { low with phase := .rdSample, suMode := .tx } = .next t) ∧
    (∃ t, exec (eventInstr .sda0) { low with phase := .dispatch } = .next t) ∧
    (∃ t, exec (eventInstr .scl0) { sending with phase := .rdSetInput } = .next t) ∧
    (∃ t, exec (eventInstr .sda1) { low with phase := .wrSetOutput, sdaM := false } = .next t) :=
  ⟨⟨_, rfl⟩, ⟨_, rfl⟩, ⟨_, rfl⟩, ⟨_, rfl⟩⟩

theorem witness_sender : low.scl = false ∧ ∃ t, exec (.sendByte 0xA3) low = .next t := ⟨rfl, _, rfl⟩

theorem witness_script_tokens :
    tokenEnabled { scl := true, sdaM := true } .start = true ∧ tokenEnabled { scl := false, sdaM := true } .stop = true ∧
    tokenEnabled { scl := false, sdaM := false } (.write8 0xFF) = true ∧
    tokenEnabled { scl := true, sdaM := false } .ctl = true := by decide

/-- R99: P2's Read with its P, a Write with an Sr, and the address frame of another address with its P. -/
theorem witness_transaction_script :
    TransactionScript [.start, .write8 0x85, .readAck, .read8, .masterNack, .stop] ∧
    TransactionScript [.start, .write8 0x84, .readAck, .write8 0x5A, .readAck, .repeatedStart] ∧
    TransactionScript [.start, .write8 0x90, .readAck, .stop] ∧
    State.reset.agenda = [] ∧ State.reset.scl = true ∧ State.reset.sdaM = true :=
  ⟨.ends _ .stop (.read 0x85 .masterNack (by decide) (by decide) (.inr rfl)) (.inl rfl),
    .ends _ .repeatedStart (.write 0x84 0x5A (by decide) (by decide)) (.inr rfl),
    .ends _ .stop (.notSelected 0x90 (by decide)) (.inl rfl), rfl, rfl, rfl⟩

/-- A controller turn between two events of a loaded script (log 26). -/
theorem test_load_scheduled :
    (got (loadScheduled [0, 2] [.start] State.reset)).map (·.agenda) =
      some [.word .ev2 0b10, .controller, .controller, .word .ev2 0b00] := by decide

theorem witness_count_has_room :
    (sending.suMode ≠ .watch → sending.fOvf = false → sending.suCnt < 8) ∧
    ({ sending with suCnt := 9, fOvf := true }.suMode ≠ .watch → { sending with suCnt := 9, fOvf := true }.fOvf = false →
      { sending with suCnt := 9, fOvf := true }.suCnt < 8) := by decide

theorem witness_count_above_eight :
    8 < { low with suCnt := 9 }.suCnt ∧ 8 < { low with suCnt := 15 }.suCnt ∧
    sending.suMode ≠ .watch ∧ sending.fOvf = false ∧ 8 ≤ { sending with suCnt := 8 }.suCnt ∧
    ∃ t, exec .mScl0 { sending with suCnt := 7 } = .next t ∧ t.suCnt = 8 := by
  refine ⟨by decide, by decide, by decide, by decide, by decide, _, rfl, by decide⟩

end Sys2Proof.Tests
end

section
/-! SUPPORT. When a turn's word runs, and that its step is exec of the decoded instruction (O9). -/

namespace Sys2Proof.Machine

/-! ### When nothing stands in a word's way -/

/-- No ev2 word is a phase's: the events and the phases are separate rows (R94, R95). -/
theorem decode_ev2_ne_phaseInstr {w : CodeWord} (p : Phase) : decode .ev2 w ≠ .ok (phaseInstr p) := by
  intro h
  rcases decode_ev2_cases h with hi | hi | hi | hi <;> cases p <;> cases hi

theorem masterHeld_eq_false_iff {mw : Bool} {s : State} :
    masterHeld mw s = false ↔ mw = false ∨ quiescent s = true := by
  cases mw <;> simp [masterHeld]

/-- Only WRITE_ALL needs Output mode (R207, log 13). -/
theorem outsideHardware_eq_false_iff {i : Instr} {s : State} :
    outsideHardware i s = false ↔ ((∃ b, i = .writeAll b) → s.portMode = .output) := by
  cases i with
  | writeAll b => cases hm : s.portMode <;> simp [outsideHardware, hm]
  | _ => simp [outsideHardware]

theorem placePhase_of_ne_phaseInstr {i : Instr} {s : State} (h : ∀ p, i ≠ phaseInstr p) : placePhase i s = s := by
  rcases placePhase_cases i s with ⟨p, hi, -⟩ | ⟨-, hs⟩
  · exact absurd hi (h p)
  · exact hs

/-- A word at the head of the agenda is fetched unless it is a held event (R120). -/
theorem fetchTurn_word_of_not_held {mw : Bool} {s : State} {f : Format} {w : CodeWord} {rest : List Turn}
    (h : f = .ev2 → masterHeld mw s = false) : fetchTurn mw s (.word f w :: rest) = fetchWord f w rest s := by
  cases f with
  | ev2 => simp [fetchTurn, h rfl]
  | addr8 | data8 | scmd12 | pcmd12 | phase5 => rfl

theorem fetchWord_of_decode {s : State} {f : Format} {w : CodeWord} {rest : List Turn} {i : Instr}
    (hdec : decode f w = .ok i) (hin : outsideHardware i s = false) :
    fetchWord f w rest s = .run i (placePhase i { s with agenda := rest }) := by
  simp [fetchWord, hdec, hin]

/-! ### The step of each turn -/

/-- Where su_cnt is at most 8 the step is exec of what the agenda gives it to run (log 17). -/
theorem stepWith_of_fetchTurn_run {mw : Bool} {s t : State} {i : Instr} (hcnt : s.suCnt ≤ 8)
    (h : fetchTurn mw s s.agenda = .run i t) : stepWith mw s = exec i t := by
  simp [stepWith, fetchNext_of_le hcnt, h]

theorem stepWith_of_agenda_nil {mw : Bool} {s : State} (hcnt : s.suCnt ≤ 8) (ha : s.agenda = []) :
    stepWith mw s = exec (phaseInstr s.phase) s := by
  have hs : { s with agenda := [] } = s := by rw [← ha]
  apply stepWith_of_fetchTurn_run hcnt
  rw [ha, fetchTurn, fetchPhase_eq, hs]

theorem stepWith_of_controller_turn {mw : Bool} {s : State} {rest : List Turn} (hcnt : s.suCnt ≤ 8)
    (ha : s.agenda = .controller :: rest) :
    stepWith mw s = exec (phaseInstr s.phase) { s with agenda := rest } := by
  apply stepWith_of_fetchTurn_run hcnt
  rw [ha, fetchTurn, fetchPhase_eq]

/-- A decoded word that is neither held nor outside the hardware is run, with its phase placed if it is a phase's. -/
theorem stepWith_of_word_turn {mw : Bool} {s : State} {f : Format} {w : CodeWord} {rest : List Turn} {i : Instr}
    (hcnt : s.suCnt ≤ 8) (ha : s.agenda = .word f w :: rest) (hdec : decode f w = .ok i)
    (hheld : f = .ev2 → masterHeld mw s = false) (hin : outsideHardware i s = false) :
    stepWith mw s = exec i (placePhase i { s with agenda := rest }) := by
  apply stepWith_of_fetchTurn_run hcnt
  rw [ha, fetchTurn_word_of_not_held hheld, fetchWord_of_decode hdec hin]

/-- Settles O9, turn by turn. A handed phase word is never held, no event being a phase, and never outside the
hardware. -/
theorem stepRunsTheDecodedInstruction : Obligations.StepRunsTheDecodedInstruction := by
  unfold Obligations.StepRunsTheDecodedInstruction
  refine ⟨fun _ => rfl, fun _ _ => stepWith_of_agenda_nil, fun _ _ _ => stepWith_of_controller_turn, ?_, ?_⟩
  · intro mw s f w rest i hcnt ha hdec hheld hwrite hne
    have hrun := stepWith_of_word_turn hcnt ha hdec (fun hf => masterHeld_eq_false_iff.2 (hheld hf))
      (outsideHardware_eq_false_iff.2 hwrite)
    rwa [placePhase_of_ne_phaseInstr hne] at hrun
  · intro mw s f w rest p hcnt ha hdec
    have hevent : f ≠ .ev2 := by
      rintro rfl
      exact decode_ev2_ne_phaseInstr p hdec
    have hrun := stepWith_of_word_turn (mw := mw) hcnt ha hdec (fun hf => absurd hf hevent)
      (outsideHardware_phaseInstr p s)
    rwa [placePhase_phaseInstr] at hrun

end Sys2Proof.Machine
end

section
/-! SUPPORT. What exec does, said once: whether an instruction runs, and the state its own writes give before the
detectors look at it. Then, from that, what every instruction does to each part of the state. -/

namespace Sys2Proof.Machine

/-! ### The instruction's own writes -/

/-- The instruction has a next state: a master event needs its line at the other level (R110) and, for the falling
edge, room to count (R28); everything else runs in every state. -/
def canRun : Instr → State → Bool
  | .mScl0, s => s.scl && !countRefused s
  | .mScl1, s => !s.scl
  | .mSda0, s => s.sdaM
  | .mSda1, s => !s.sdaM
  | _, _ => true

/-- What an instruction writes of its own, before the detectors (R10). -/
def ownWrites : Instr → State → State
  | .addrWrite, s => compareAddress Config.deviceAddress false s
  | .addrRead, s => compareAddress Config.deviceAddress true s
  | .addrOther addr7 rw, s => compareAddress addr7 rw s
  | .data b, s => if s.dir = .write then captureByte b s else presentByte b s
  | .mScl0, s => edgeFall (setScl false s)
  | .mScl1, s => edgeRise (setScl true s)
  | .mSda0, s => setSdaM false s
  | .mSda1, s => setSdaM true s
  | .arm, s => arm s
  | .beginAddr, s => beginAddr s
  | .sdaIn, s => sdaIn s
  | .sendAck, s => sendAck s
  | .readAck, s => readAck s
  | .sendByte value, s => sendByte value s
  | .recvByte, s => recvByte s
  | .setInput, s => setInput s
  | .setOutput, s => setOutput s
  | .writeAll b, s => writeAll b s
  | .readAll, s => sampleToResult s
  | .idle, s => if s.fStart then gotoPhase .addrSdaIn s else s
  | .addrSdaIn, s => gotoPhase .addrWaitSclLow (sdaIn s)
  | .addrWaitSclLow, s => waitSclLow .addrBegin s
  | .addrBegin, s => gotoPhase .addrWait (beginAddr s)
  | .addrWait, s => if s.fStop then gotoPhase .addrAbort s else waitOvf .addrCompare s
  | .addrAbort, s => rearmToIdle s
  | .addrCompare, s => compareAddress (addressField s.sr) (rwField s.sr) s
  | .addrReject, s => rearmToIdle s
  | .addrAck, s => gotoPhase .dispatch (sendAck s)
  | .dispatch, s => gotoPhase (dispatchTarget s.dir s.portMode) s
  | .rdSetInput, s => gotoPhase .rdSample (setInput s)
  | .rdSample, s => gotoPhase .rdWaitAck (sampleToXfer s)
  | .rdWaitAck, s => waitOvf .rdSend s
  | .rdSend, s => presentByte s.xfer s
  | .rdWaitSend, s => waitOvf .rdMack s
  | .rdMack, s => gotoPhase .rdWaitMack (readAck s)
  | .rdWaitMack, s => waitOvf .rdRearm s
  | .rdRearm, s => rearmToIdle s
  | .wrSetOutput, s => gotoPhase .wrWaitAck (setOutput s)
  | .wrWaitAck, s => waitOvf .wrRecv s
  | .wrRecv, s => gotoPhase .wrWaitRecv (recvByte s)
  | .wrWaitRecv, s => if s.fOvf then captureByte s.sr s else s
  | .wrSack, s => gotoPhase .wrWaitSack (sendAck s)
  | .wrWaitSack, s => waitOvf .wrRearm s
  | .wrRearm, s => gotoPhase .wrWrite (arm s)
  | .wrWrite, s => gotoPhase .idle (writeAll s.xfer s)

theorem exec_of_canRun {i : Instr} {s : State} (h : canRun i s = true) : exec i s = commit s (ownWrites i s) := by
  cases i with
  | data b => cases hd : s.dir <;> simp [exec, execData, ownWrites, hd]
  | mScl0 =>
    obtain ⟨hscl, hcount⟩ : s.scl = true ∧ countRefused s = false := by simpa [canRun] using h
    simp [exec, execMScl0, ownWrites, hscl, hcount]
  | mScl1 => simp_all [canRun, exec, execMScl1, ownWrites]
  | mSda0 => simp_all [canRun, exec, execMSda0, ownWrites]
  | mSda1 => simp_all [canRun, exec, execMSda1, ownWrites]
  | _ => rfl

theorem canRun_of_exec_next {i : Instr} {s t : State} (h : exec i s = .next t) : canRun i s = true := by
  cases i with
  | mScl0 =>
    rcases execMScl0_cases s with ⟨-, he⟩ | ⟨-, -, he⟩ | ⟨hscl, hcount, -⟩
    · exact nomatch he.symm.trans h
    · exact nomatch he.symm.trans h
    · simp [canRun, hscl, hcount]
  | mScl1 => cases hscl : s.scl <;> simp_all [canRun, exec, execMScl1]
  | mSda0 => cases hsda : s.sdaM <;> simp_all [canRun, exec, execMSda0]
  | mSda1 => cases hsda : s.sdaM <;> simp_all [canRun, exec, execMSda1]
  | _ => rfl

/-- A next state is the instruction's own writes with the detectors run over them, and there is one exactly where the
instruction can run. -/
theorem exec_next_iff {i : Instr} {s t : State} :
    exec i s = .next t ↔ canRun i s = true ∧ t = detect s (ownWrites i s) := by
  constructor
  · intro h
    have hrun := canRun_of_exec_next h
    rw [exec_of_canRun hrun, commit_next_iff] at h
    exact ⟨hrun, h⟩
  · rintro ⟨hrun, ht⟩
    rw [exec_of_canRun hrun, commit_next_iff]
    exact ht

/-! ### The shift unit's part -/

/-- The configuration, count and overflow stand, and SDA is as it was or released. -/
abbrev CountKept (s t : State) : Prop :=
  t.suMode = s.suMode ∧ t.suLen = s.suLen ∧ t.suCnt = s.suCnt ∧ t.fOvf = s.fOvf ∧ (t.sdaS = s.sdaS ∨ t.sdaS = true)

/-- What every command other than SDA_IN leaves (R140): nothing counted yet, and in WATCH SDA released. -/
abbrev CountRestarted (t : State) : Prop := t.suCnt = 0 ∧ t.fOvf = false ∧ (t.suMode = .watch → t.sdaS = true)

/-- One bit more is counted, and overflow is raised exactly where that reaches the configured length (R117). -/
abbrev BitCounted (s t : State) : Prop :=
  s.suMode ≠ .watch ∧ s.fOvf = false ∧ t.suMode = s.suMode ∧ t.suLen = s.suLen ∧ t.suCnt = s.suCnt + 1 ∧
    (t.fOvf = true ↔ s.suCnt + 1 = suLenVal s.suLen)

/-- The instruction is a shift-unit command other than SDA_IN, or a step that issues one in this direction (R140). -/
def restartsCount : Instr → Direction → Bool
  | .arm, _ | .beginAddr, _ | .sendAck, _ | .readAck, _ | .sendByte _, _ | .recvByte, _ => true
  | .addrBegin, _ | .addrAbort, _ | .addrReject, _ | .addrAck, _ => true
  | .rdSend, _ | .rdMack, _ | .rdRearm, _ => true
  | .wrRecv, _ | .wrSack, _ | .wrRearm, _ => true
  | .data _, d => d == .read
  | _, _ => false

/-- The falling edge neither reads nor writes SCL. -/
theorem edgeFall_setScl (v : Bool) (s : State) : edgeFall (setScl v s) = setScl v (edgeFall s) := by
  unfold edgeFall
  simp only [apply_ite (setScl v)]
  rfl

theorem edgeFall_count_cases (s : State) : CountKept s (edgeFall s) ∨ BitCounted s (edgeFall s) := by
  rcases edgeFall_cases s with ⟨-, he⟩ | ⟨hsh, hn, he⟩ | ⟨hsh, hn, -, he⟩ | ⟨hsh, hn, -, he⟩
  · exact .inl (by simp [CountKept, he])
  all_goals
    obtain ⟨hwatch, hovf⟩ := (shifting_iff s).1 hsh
    exact .inr (by simp_all [BitCounted])

/-- Everything an instruction can do to the count: leave it, restart it, or count at the falling edge (R117, R140). -/
theorem exec_count_cases {i : Instr} {s t : State} (h : exec i s = .next t) :
    CountKept s t ∨ (restartsCount i s.dir = true ∧ CountRestarted t) ∨
      (i = .mScl0 ∧ countRefused s = false ∧ BitCounted s t) := by
  obtain ⟨hrun, rfl⟩ := exec_next_iff.1 h
  cases i with
  | mScl0 =>
    have hcount : countRefused s = false := by simp_all [canRun]
    simp only [ownWrites, edgeFall_setScl]
    exact (edgeFall_count_cases s).imp id (fun hc => .inr ⟨trivial, hcount, hc⟩)
  | data b => cases hd : s.dir <;> simp [ownWrites, restartsCount, hd, CountKept, CountRestarted]
  | idle | addrWait | wrWaitRecv => exact .inl (by simp only [ownWrites]; split <;> simp [CountKept])
  | _ => simp [ownWrites, restartsCount, CountKept, CountRestarted]

/-! ### The port's part -/

/-- What an instruction does to the port registers: set_mode, WRITE_ALL, or nothing (R202 to R204, R222, R224,
R225). -/
def portAfter : Instr → State → State
  | .setInput, s | .rdSetInput, s => setInput s
  | .setOutput, s | .wrSetOutput, s => setOutput s
  | .writeAll b, s => writeAll b s
  | .wrWrite, s => writeAll s.xfer s
  | _, s => s

theorem exec_port {i : Instr} {s t : State} (h : exec i s = .next t) : SamePort (portAfter i s) t := by
  obtain ⟨-, rfl⟩ := exec_next_iff.1 h
  cases i with
  | data b => cases hd : s.dir <;> simp [ownWrites, portAfter, SamePort, hd]
  | idle | addrWait | wrWaitRecv => simp only [ownWrites, portAfter]; split <;> simp [SamePort]
  | _ => simp [ownWrites, portAfter, SamePort]

/-! ### The sequencer's part -/

/-- Only the address match writes the direction (R23, R177). -/
theorem exec_dir {i : Instr} {s t : State} (h : exec i s = .next t) :
    t.dir = s.dir ∨ i = .addrCompare ∨ i = .addrWrite ∨ i = .addrRead ∨ ¬ WellFormed i := by
  obtain ⟨-, rfl⟩ := exec_next_iff.1 h
  cases i with
  | addrWrite | addrRead | addrCompare => simp
  | addrOther addr7 rw =>
    rcases compareAddress_cases addr7 rw s with ⟨ha, -⟩ | ⟨-, he⟩
    · simp [Instr.wellFormed, ha]
    · simp [ownWrites, he]
  | data b => cases hd : s.dir <;> simp [ownWrites, hd]
  | idle | addrWait | wrWaitRecv => simp only [ownWrites]; split <;> simp
  | _ => simp [ownWrites]

/-- Only RD_SAMPLE and the received byte write xfer (R24, R188, R223). -/
theorem exec_xfer {i : Instr} {s t : State} (h : exec i s = .next t) :
    t.xfer = s.xfer ∨ i = .rdSample ∨ i = .wrWaitRecv ∨ ∃ b, i = .data b ∧ s.dir = .write := by
  obtain ⟨-, rfl⟩ := exec_next_iff.1 h
  cases i with
  | data b => cases hd : s.dir <;> simp [ownWrites, hd]
  | idle | addrWait => simp only [ownWrites]; split <;> simp
  | _ => simp [ownWrites]

/-- No event and no command writes the phase (R21, R140). -/
theorem exec_phase_of_not_row {i : Instr} {s t : State} (h : exec i s = .next t)
    (hf : formatOf i = .ev2 ∨ formatOf i = .scmd12 ∨ formatOf i = .pcmd12) : t.phase = s.phase := by
  obtain ⟨-, rfl⟩ := exec_next_iff.1 h
  cases i <;> simp_all [ownWrites, formatOf]

/-- The phases a phase can go on to in this direction and port mode (R171 to R191, R221 to R225). -/
def phasesAfter : Phase → Direction → PortMode → List Phase
  | .idle, _, _ => [.addrSdaIn]
  | .addrSdaIn, _, _ => [.addrWaitSclLow]
  | .addrWaitSclLow, _, _ => [.addrBegin]
  | .addrBegin, _, _ => [.addrWait]
  | .addrWait, _, _ => [.addrAbort, .addrCompare]
  | .addrAbort, _, _ => [.idle]
  | .addrCompare, _, _ => [.addrAck, .addrReject]
  | .addrReject, _, _ => [.idle]
  | .addrAck, _, _ => [.dispatch]
  | .dispatch, d, m => [dispatchTarget d m]
  | .rdSetInput, _, _ => [.rdSample]
  | .rdSample, _, _ => [.rdWaitAck]
  | .rdWaitAck, _, _ => [.rdSend]
  | .rdSend, _, _ => [.rdWaitSend]
  | .rdWaitSend, _, _ => [.rdMack]
  | .rdMack, _, _ => [.rdWaitMack]
  | .rdWaitMack, _, _ => [.rdRearm]
  | .rdRearm, _, _ => [.idle]
  | .wrSetOutput, _, _ => [.wrWaitAck]
  | .wrWaitAck, _, _ => [.wrRecv]
  | .wrRecv, _, _ => [.wrWaitRecv]
  | .wrWaitRecv, _, _ => [.wrSack]
  | .wrSack, _, _ => [.wrWaitSack]
  | .wrWaitSack, _, _ => [.wrRearm]
  | .wrRearm, _, _ => [.wrWrite]
  | .wrWrite, _, _ => [.idle]

theorem waitOvf_stays_or_goes (p : Phase) (s : State) :
    detect s (waitOvf p s) = s ∨ (waitOvf p s).phase = p := by
  rcases waitOvf_cases p s with ⟨-, he⟩ | ⟨-, he⟩ <;> simp [he]

theorem waitSclLow_stays_or_goes (p : Phase) (s : State) :
    detect s (waitSclLow p s) = s ∨ (waitSclLow p s).phase = p := by
  rcases waitSclLow_cases p s with ⟨-, he⟩ | ⟨-, he⟩ <;> simp [he]

/-- A phase's row writes nothing, or goes on to one of the phases after it (R170). -/
theorem exec_phaseInstr_stays_or_goes {p : Phase} {s t : State} (h : exec (phaseInstr p) s = .next t) :
    t = s ∨ t.phase ∈ phasesAfter p s.dir s.portMode := by
  obtain ⟨-, rfl⟩ := exec_next_iff.1 h
  cases p with
  | idle => cases hs : s.fStart <;> simp [phaseInstr, ownWrites, phasesAfter, hs]
  | addrWaitSclLow =>
    simp only [phaseInstr, ownWrites, phasesAfter, detect_phase, List.mem_singleton]
    exact waitSclLow_stays_or_goes _ s
  | addrWait =>
    cases hs : s.fStop with
    | true => simp [phaseInstr, ownWrites, phasesAfter, hs]
    | false =>
      rcases waitOvf_stays_or_goes .addrCompare s with he | he <;> simp [phaseInstr, ownWrites, phasesAfter, hs, he]
  | addrCompare =>
    rcases compareAddress_cases (addressField s.sr) (rwField s.sr) s with ⟨-, he⟩ | ⟨-, he⟩ <;>
      simp [phaseInstr, ownWrites, phasesAfter, he]
  | rdWaitAck | rdWaitSend | rdWaitMack | wrWaitAck | wrWaitSack =>
    simp only [phaseInstr, ownWrites, phasesAfter, detect_phase, List.mem_singleton]
    exact waitOvf_stays_or_goes _ s
  | wrWaitRecv => cases hs : s.fOvf <;> simp [phaseInstr, ownWrites, phasesAfter, hs]
  | _ => simp [phaseInstr, ownWrites, phasesAfter]

end Sys2Proof.Machine
end

section
/-! SUPPORT. The state family: the port invariant (O47), the counter invariant (O48), which agent and which
instruction reaches which register (O20, O22, O32, O33, O41), the order of the source's states (O40), the counter's
range (O58) and reset (O1). -/

namespace Sys2Proof.Machine

/-! ### The port invariant -/

theorem portInv_of_samePort {s t : State} (hst : SamePort s t) (h : PortInv s) : PortInv t := by
  obtain ⟨hm, h1d, h1o, h2d, h2o, hi⟩ := hst
  simpa only [PortInv, hm, h1d, h1o, h2d, h2o, hi] using h

theorem or_and_self_right (x m : Byte) : (x ||| m) &&& m = m := by
  ext i hi
  cases hm : m[i] <;> simp [hm]

theorem portInv_setInput (s : State) : PortInv (setInput s) := by
  simp [PortInv, BitVec.and_assoc]

theorem portInv_setOutput (s : State) : PortInv (setOutput s) := by
  simp [PortInv, or_and_self_right]

/-- WRITE_ALL touches no direction and no indicator, so in Output mode it keeps the invariant (R207). -/
theorem portInv_writeAll {s : State} (b : Byte) (hm : s.portMode = .output) (h : PortInv s) :
    PortInv (writeAll b s) := by
  simp_all [PortInv]

/-- The port invariant is kept wherever WRITE_ALL is issued in Output mode only (R37, R207). -/
theorem portInv_portAfter {i : Instr} {s : State} (hw : i = .wrWrite ∨ (∃ b, i = .writeAll b) → s.portMode = .output)
    (h : PortInv s) : PortInv (portAfter i s) := by
  cases i with
  | setInput | rdSetInput => exact portInv_setInput s
  | setOutput | wrSetOutput => exact portInv_setOutput s
  | writeAll b => exact portInv_writeAll b (hw (.inr ⟨b, rfl⟩)) h
  | wrWrite => exact portInv_writeAll s.xfer (hw (.inl rfl)) h
  | _ => exact h

/-- A phase that a row goes on to agrees with the direction and the mode the row leaves (R221 to R225). -/
theorem phaseAgrees_of_mem_phasesAfter {p q : Phase} {d : Direction} {s : State}
    (h : phaseAgrees p s.dir s.portMode = true) (hq : q ∈ phasesAfter p s.dir s.portMode)
    (hd : p ≠ .addrCompare → d = s.dir) : phaseAgrees q d (portAfter (phaseInstr p) s).portMode = true := by
  cases p with
  | addrWait | addrCompare =>
    simp only [phasesAfter, List.mem_cons, List.not_mem_nil, or_false] at hq
    rcases hq with rfl | rfl <;> rfl
  | dispatch =>
    have hdir := hd (by simp)
    cases hs : s.dir <;> cases hm : s.portMode <;>
      simp_all [phasesAfter, dispatchTarget, phaseAgrees, phaseInstr, portAfter]
  | _ => simp_all [phasesAfter, phaseAgrees, phaseInstr, portAfter]

/-- Of the phases only ADDR_COMPARE writes the direction (R177). -/
theorem exec_phaseInstr_dir {p : Phase} {s t : State} (h : exec (phaseInstr p) s = .next t) (hp : p ≠ .addrCompare) :
    t.dir = s.dir := by
  have hdir := exec_dir h
  cases p <;> simp_all [phaseInstr, Instr.wellFormed]

/-- The phase that issues WRITE_ALL agrees with Output mode only (R207). -/
theorem portMode_of_phase_writes {p : Phase} {d : Direction} {m : PortMode} (h : phaseAgrees p d m = true)
    (hw : phaseInstr p = .wrWrite ∨ ∃ b, phaseInstr p = .writeAll b) : m = .output := by
  cases p <;> simp_all [phaseInstr, phaseAgrees]

/-- The rule of the controller's phase keeps the block's invariant (R37, R207). -/
theorem blockInv_of_exec_phaseInstr {s t : State} (hs : BlockInv s) (h : exec (phaseInstr s.phase) s = .next t) :
    BlockInv t := by
  obtain ⟨hport, hagree, hagenda⟩ := hs
  rcases exec_phaseInstr_stays_or_goes h with rfl | hgoes
  · exact ⟨hport, hagree, hagenda⟩
  have hsame := exec_port h
  refine ⟨portInv_of_samePort hsame (portInv_portAfter (portMode_of_phase_writes hagree) hport), ?_, ?_⟩
  · rw [hsame.1]
    exact phaseAgrees_of_mem_phasesAfter hagree hgoes (exec_phaseInstr_dir h)
  · exact hardwareAgenda_subset hagenda (exec_agenda h ▸ List.Subset.refl _)

/-- What a master event leaves alone: the port, the sequencer and the agenda (R20). -/
theorem exec_event_frame {e : MasterEvent} {s t : State} (h : exec (eventInstr e) s = .next t) :
    SamePort s t ∧ SameSequencer s t ∧ SameModelFields s t ∧ t.suMode = s.suMode ∧ t.suLen = s.suLen := by
  obtain ⟨-, rfl⟩ := exec_next_iff.1 h
  cases e <;> simp [eventInstr, ownWrites, SamePort, SameSequencer, SameModelFields]

theorem blockInv_of_exec_event {e : MasterEvent} {s t : State} (hs : BlockInv s)
    (h : exec (eventInstr e) s = .next t) : BlockInv t := by
  obtain ⟨hport, hagree, hagenda⟩ := hs
  obtain ⟨hsame, ⟨hphase, hdir, -⟩, ⟨-, -, ha⟩, -⟩ := exec_event_frame h
  exact ⟨portInv_of_samePort hsame hport, by rwa [hphase, hdir, hsame.1],
    hardwareAgenda_subset hagenda (ha ▸ List.Subset.refl _)⟩

theorem blockInv_of_stepWith {mw : Bool} {s t : State} (hs : BlockInv s) (h : stepWith mw s = .next t) :
    BlockInv t := by
  obtain ⟨hport, hagree, hagenda⟩ := hs
  have hrest : ∀ rest, rest ⊆ s.agenda → BlockInv { s with agenda := rest } := fun rest hr =>
    ⟨hport, hagree, hardwareAgenda_subset hagenda hr⟩
  rcases stepWith_hardware_cases hagenda h with ⟨rest, hr, he⟩ | ⟨i, rest, hr, hi, -, he⟩
  · exact blockInv_of_exec_phaseInstr (hrest rest hr) he
  · have hevent : ∃ e, i = eventInstr e := by
      rcases hi with rfl | rfl | rfl | rfl
      exacts [⟨.scl0, rfl⟩, ⟨.scl1, rfl⟩, ⟨.sda0, rfl⟩, ⟨.sda1, rfl⟩]
    obtain ⟨e, rfl⟩ := hevent
    exact blockInv_of_exec_event (hrest rest hr) he

/-- Settles O47: WRITE_ALL is the one port operation that could break the invariant, and WR_WRITE stands in Output
mode. -/
theorem everyStepKeepsThePortInvariant : Obligations.EveryStepKeepsThePortInvariant := by
  unfold Obligations.EveryStepKeepsThePortInvariant
  exact ⟨fun _ _ _ => blockInv_of_stepWith, fun _ _ => blockInv_of_stepWith⟩

/-! ### The counter invariant -/

theorem shiftInv_of_countKept {s t : State} (hst : CountKept s t) (h : ShiftInv s) : ShiftInv t := by
  obtain ⟨hmode, hlen, hcnt, hovf, hsda⟩ := hst
  obtain ⟨hle, hfull, hroom, hwatch⟩ := h
  refine ⟨by rwa [hcnt, hlen], by rwa [hovf, hcnt, hlen], by rwa [hmode, hovf, hcnt, hlen], ?_⟩
  rw [hmode, hovf, hcnt]
  intro hm
  obtain ⟨ho, hc, hs⟩ := hwatch hm
  exact ⟨ho, hc, hsda.elim (fun h => h.trans hs) id⟩

theorem zero_lt_suLenVal (l : SuLen) : 0 < suLenVal l := by
  cases l <;> decide

theorem shiftInv_of_countRestarted {t : State} (h : CountRestarted t) : ShiftInv t := by
  obtain ⟨hcnt, hovf, hwatch⟩ := h
  have hpos := zero_lt_suLenVal t.suLen
  exact ⟨hcnt ▸ BitVec.le_of_lt hpos, by simp [hovf], fun _ _ => hcnt ▸ hpos, fun hm => ⟨hovf, hcnt, hwatch hm⟩⟩

/-- One bit more fits: before overflow the count is below the length (R119). -/
theorem shiftInv_of_bitCounted {s t : State} (hst : BitCounted s t) (h : ShiftInv s) : ShiftInv t := by
  obtain ⟨hwatch, hovf, hmode, hlen, hcnt, hfull⟩ := hst
  obtain ⟨-, -, hroom, -⟩ := h
  have hle : s.suCnt + 1 ≤ suLenVal s.suLen := by
    have := hroom hwatch hovf
    bv_omega
  refine ⟨by rwa [hcnt, hlen], ?_, ?_, fun hm => absurd (hmode ▸ hm) hwatch⟩
  · rw [hcnt, hlen]
    exact hfull.1
  · rw [hcnt, hlen]
    intro _ ho
    have hne : s.suCnt + 1 ≠ suLenVal s.suLen := fun heq => (nomatch ho.symm.trans (hfull.2 heq))
    exact BitVec.lt_of_le_ne hle hne

theorem shiftInv_of_exec {i : Instr} {s t : State} (hs : ShiftInv s) (h : exec i s = .next t) : ShiftInv t := by
  rcases exec_count_cases h with hkept | ⟨-, hrestarted⟩ | ⟨-, -, hcounted⟩
  · exact shiftInv_of_countKept hkept hs
  · exact shiftInv_of_countRestarted hrestarted
  · exact shiftInv_of_bitCounted hcounted hs

/-- The count does not depend on the phase register. -/
theorem shiftInv_placePhase {i : Instr} {s : State} (h : ShiftInv s) : ShiftInv (placePhase i s) := by
  rcases placePhase_cases i s with ⟨p, -, he⟩ | ⟨-, he⟩
  · rw [he]
    exact h
  · rwa [he]

theorem shiftInv_of_stepWith {mw : Bool} {s t : State} (hs : ShiftInv s) (h : stepWith mw s = .next t) :
    ShiftInv t := by
  rcases stepWith_cases h with ⟨rest, -, he⟩ | ⟨f, w, rest, i, -, -, -, -, -, he⟩
  · exact shiftInv_of_exec (s := { s with agenda := rest }) hs he
  · exact shiftInv_of_exec (shiftInv_placePhase (s := { s with agenda := rest }) hs) he

/-- Settles O48: an instruction leaves the count, restarts it, or counts one bit that has room. -/
theorem everyStepKeepsTheCounterInvariant : Obligations.EveryStepKeepsTheCounterInvariant := by
  unfold Obligations.EveryStepKeepsTheCounterInvariant
  exact ⟨fun _ _ _ => shiftInv_of_stepWith, fun _ _ => shiftInv_of_stepWith⟩

/-! ### The bus master's reach -/

/-- A falling edge moves the presented bit in a transmission only (R117). -/
theorem suMode_of_edgeFall_sdaS_ne {s : State} (h : (edgeFall s).sdaS ≠ s.sdaS) : s.suMode = .tx := by
  rcases edgeFall_cases s with ⟨-, he⟩ | ⟨-, -, he⟩ | ⟨-, -, hm, -⟩ | ⟨-, -, -, he⟩
  · exact absurd (by rw [he]) h
  · exact absurd (by rw [he]) h
  · exact hm
  · exact absurd (by rw [he]) h

/-- Settles O20, event by event for the three fields an event may write. -/
theorem busMasterReachesNoOtherRegister : Obligations.BusMasterReachesNoOtherRegister := by
  unfold Obligations.BusMasterReachesNoOtherRegister
  intro e s t h
  obtain ⟨hport, hseq, hmodel, hmode, hlen⟩ := exec_event_frame h
  refine ⟨hseq, hport, hmode, hlen, hmodel, ?_⟩
  obtain ⟨-, rfl⟩ := exec_next_iff.1 h
  cases e with
  | scl0 => simpa [eventInstr, ownWrites, edgeFall_setScl] using suMode_of_edgeFall_sdaS_ne
  | scl1 | sda0 | sda1 => simp [eventInstr, ownWrites]

/-! ### Overflow -/

/-- Settles O22 by what an instruction can do to the count. -/
theorem overflowIsRaisedByEdgesAndClearedByCommands : Obligations.OverflowIsRaisedByEdgesAndClearedByCommands := by
  unfold Obligations.OverflowIsRaisedByEdgesAndClearedByCommands
  intro i s t h
  rcases exec_count_cases h with ⟨-, -, -, hovf, -⟩ | ⟨hrestarts, -, hovf, -⟩ | ⟨hi, -, hwatch, hovf, -, -, -, hfull⟩
  · rw [hovf]
    exact ⟨fun hs ht => (nomatch hs.symm.trans ht), fun hs ht => (nomatch hs.symm.trans ht)⟩
  · refine ⟨by simp [hovf], fun _ _ => ?_⟩
    cases i <;> simp_all [restartsCount]
  · refine ⟨fun _ ht => ⟨hi, hwatch, ?_⟩, by simp [hovf]⟩
    rw [hfull.1 ht]
    cases s.suLen <;> rfl

/-! ### The port's writers and the indicator -/

/-- Settles O32: what is left but set_mode is WRITE_ALL, which writes the latches. -/
theorem onlySetModeChangesModeAndIndicator : Obligations.OnlySetModeChangesModeAndIndicator := by
  unfold Obligations.OnlySetModeChangesModeAndIndicator
  intro i s t h hi
  obtain ⟨hmode, h1, -, h2, -, hind⟩ := exec_port h
  rw [hmode, h1, h2, hind]
  cases i with
  | setInput | setOutput | rdSetInput | wrSetOutput => simp at hi
  | _ => exact ⟨rfl, rfl, rfl, rfl⟩

/-- The state with the indicator at `v`. -/
def setInd (v : Bool) (s : State) : State := { s with ind := v }

/-- What an instruction leaves of an indicator that stood at `v`: set_mode writes it (R36). -/
def indAfter : Instr → Bool → Bool
  | .setInput, _ | .rdSetInput, _ => false
  | .setOutput, _ | .wrSetOutput, _ => true
  | _, v => v

theorem edgeFall_setInd (v : Bool) (s : State) : edgeFall (setInd v s) = setInd v (edgeFall s) := by
  unfold edgeFall
  simp only [apply_ite (setInd v)]
  rfl

/-- The indicator goes into no other field: an instruction's writes are the same but for it (R209). -/
theorem ownWrites_setInd (i : Instr) (v : Bool) (s : State) :
    ownWrites i (setInd v s) = setInd (indAfter i v) (ownWrites i s) := by
  cases i with
  | mScl0 => exact edgeFall_setInd v (setScl false s)
  | addrWrite | addrRead | addrOther _ _ | addrCompare | data _ | mScl1 | idle | addrWaitSclLow | addrWait | rdWaitAck
  | rdWaitSend | rdWaitMack | wrWaitAck | wrWaitRecv | wrWaitSack =>
    simp only [ownWrites, indAfter, compareAddress, edgeRise, waitSclLow, waitOvf, apply_ite (setInd v)]
    rfl
  | _ => rfl

theorem canRun_setInd (i : Instr) (v : Bool) (s : State) : canRun i (setInd v s) = canRun i s := by
  cases i <;> rfl

/-- Settles O33: neither what an instruction needs to run nor its writes depend on the indicator. -/
theorem indicatorIsNeverRead : Obligations.IndicatorIsNeverRead := by
  unfold Obligations.IndicatorIsNeverRead
  intro i s t v h
  obtain ⟨hrun, rfl⟩ := exec_next_iff.1 h
  refine ⟨indAfter i v, exec_next_iff.2 ⟨(canRun_setInd i v s).trans hrun, ?_⟩⟩
  change _ = detect (setInd v s) (ownWrites i (setInd v s))
  rw [ownWrites_setInd]
  rfl

/-! ### The sequencer -/

/-- The phases after a phase are in the source's sequence (R22). -/
theorem busPhase_of_mem_phasesAfter {p q : Phase} {d : Direction} {m : PortMode} (h : q ∈ phasesAfter p d m) :
    busPhase q = busPhase p ∨ busPhaseFollows (busPhase p) (busPhase q) = true := by
  cases p with
  | addrWait | addrCompare =>
    simp only [phasesAfter, List.mem_cons, List.not_mem_nil, or_false] at h
    rcases h with rfl | rfl <;> decide
  | dispatch =>
    obtain rfl := List.mem_singleton.1 h
    cases d <;> cases m <;> decide
  | _ =>
    obtain rfl := List.mem_singleton.1 h
    decide

/-- Settles O40, along the phases each phase can go on to. -/
theorem controllerFollowsTheSourceSequence : Obligations.ControllerFollowsTheSourceSequence := by
  unfold Obligations.ControllerFollowsTheSourceSequence
  intro s t h
  rw [controllerStep_eq] at h
  rcases exec_phaseInstr_stays_or_goes h with rfl | hgoes
  · exact .inl rfl
  · exact busPhase_of_mem_phasesAfter hgoes

/-- Settles O41 from the writers of each of the three registers. -/
theorem sequencerRegistersHaveTheirOwnWriters : Obligations.SequencerRegistersHaveTheirOwnWriters := by
  unfold Obligations.SequencerRegistersHaveTheirOwnWriters
  exact fun i s t h => ⟨(exec_dir h).resolve_left, (exec_xfer h).resolve_left, exec_phase_of_not_row h⟩

/-! ### The counter's range -/

/-- An unrefused count of a bit stays in the range (R28). -/
theorem suCnt_le_eight_of_bitCounted {s t : State} (hc : BitCounted s t) (hr : countRefused s = false) :
    t.suCnt ≤ 8 := by
  obtain ⟨hwatch, hovf, -, -, hcnt, -⟩ := hc
  have hlt : s.suCnt < 8 := by
    by_contra hge
    have := (countRefused_iff s).2 ⟨⟨hwatch, hovf⟩, BitVec.not_lt.1 hge⟩
    simp [hr] at this
  rw [hcnt]
  bv_omega

/-- Settles O58: an instruction leaves the count, restarts it, or counts one bit that was not refused. -/
theorem counterAboveEightIsRefused : Obligations.CounterAboveEightIsRefused := by
  unfold Obligations.CounterAboveEightIsRefused
  refine ⟨fun mw s => stepWith_of_counter_above, ?_, ?_⟩
  · intro s hscl hwatch hovf hcnt
    have hr := (countRefused_iff s).2 ⟨⟨hwatch, hovf⟩, hcnt⟩
    simp [exec, execMScl0, hscl, hr]
  · intro i s t hs h
    rcases exec_count_cases h with ⟨-, -, hcnt, -⟩ | ⟨-, hcnt, -⟩ | ⟨-, hr, hcounted⟩
    · rwa [hcnt]
    · simp [hcnt]
    · exact suCnt_le_eight_of_bitCounted hcounted hr

/-! ### Reset -/

/-- Settles O1: every field by its reset value. -/
theorem resetLeavesTheBlockArmedInInputMode : Obligations.ResetLeavesTheBlockArmedInInputMode := by
  unfold Obligations.ResetLeavesTheBlockArmedInInputMode
  constructor
  · rintro dir xfer sr suLen s rfl
    simp [State.resetWith]
  · exact ⟨.write, 0x00, 0x00, .eight, rfl⟩

end Sys2Proof.Machine
end

section
/-! SUPPORT. What the events of one clocked bit leave when they run one after the other, and from it the byte a
receiver assembles (R63, R98, R116, R117). -/

namespace Sys2Proof.Machine

/-! ### Running lists of instructions -/

theorem runInstrs_cons_of_next {i : Instr} {rest : List Instr} {s t : State} (h : exec i s = .next t) :
    runInstrs (i :: rest) s = runInstrs rest t := by
  rw [runInstrs, h]

/-- A list that runs to its end hands its last state to the instructions after it. -/
theorem runInstrs_append_of_next {first rest : List Instr} {s t : State} (h : runInstrs first s = .next t) :
    runInstrs (first ++ rest) s = runInstrs rest t := by
  induction first generalizing s with
  | nil =>
    cases h
    rfl
  | cons i is ih =>
    cases he : exec i s with
    | next u =>
      rw [runInstrs_cons_of_next he] at h
      rw [List.cons_append, runInstrs_cons_of_next he]
      exact ih h
    | fault r => simp [runInstrs, he] at h
    | refused r => simp [runInstrs, he] at h

/-! ### The events of a clocked bit -/

/-- The rising edge makes no condition, SCL having moved (R111, R114). -/
theorem exec_mScl1_of_low {s : State} (h : s.scl = false) : exec .mScl1 s = .next (edgeRise (setScl true s)) :=
  exec_next_iff.2 ⟨by simp [canRun, h], (detect_eq_of_scl_ne (by simp [h])).symm⟩

/-- The falling edge makes no condition, SCL having moved (R112, R114). -/
theorem exec_mScl0_of_high {s : State} (h : s.scl = true) (hc : countRefused s = false) :
    exec .mScl0 s = .next (edgeFall (setScl false s)) :=
  exec_next_iff.2 ⟨by simp [canRun, h, hc], (detect_eq_of_scl_ne (by simp [h])).symm⟩

/-- While SCL is low a move of SDA makes no condition (R114). -/
theorem detect_eq_of_scl_low {s t : State} (h : s.scl = false) : detect s t = t := by
  simp [detect, startSeen, stopSeen, h]

/-- Under a low SCL the master's drive is brought to `v` and nothing else moves (R98, R113). -/
theorem runInstrs_driveTo {s : State} (h : s.scl = false) (v : Bool) :
    runInstrs ((driveTo s.sdaM v).map eventInstr) s = .next (setSdaM v s) := by
  by_cases hv : s.sdaM = v
  · subst hv
    simp [driveTo, runInstrs, setSdaM]
  · have hrun : exec (if v then .mSda1 else .mSda0) s = .next (setSdaM v s) := by
      cases v <;> exact exec_next_iff.2 ⟨by simpa [canRun] using hv, (detect_eq_of_scl_low h).symm⟩
    have hlist : (driveTo s.sdaM v).map eventInstr = [if v then .mSda1 else .mSda0] := by
      cases v <;> simp [driveTo, hv, eventInstr]
    rw [hlist]
    exact runInstrs_cons_of_next hrun

/-- The state after one clocked bit: the master drives `v`, then SCL rises and falls (R98). -/
def clockBit (v : Bool) (s : State) : State := edgeFall (setScl false (edgeRise (setScl true (setSdaM v s))))

/-- Neither the drive nor the rise counts, so the fall is refused only where it would have been at once. -/
theorem countRefused_rise (v : Bool) (s : State) :
    countRefused (edgeRise (setScl true (setSdaM v s))) = countRefused s := by
  simp [countRefused, shifting]

theorem runInstrs_bitEvents {s : State} (h : s.scl = false) (hc : countRefused s = false) (v : Bool) :
    runInstrs ((bitEvents s.sdaM v).map eventInstr) s = .next (clockBit v s) := by
  rw [bitEvents, List.map_append, runInstrs_append_of_next (runInstrs_driveTo h v)]
  have hrise : exec .mScl1 (setSdaM v s) = .next _ := exec_mScl1_of_low (by simpa using h)
  have hfall : exec .mScl0 (edgeRise (setScl true (setSdaM v s))) = .next (clockBit v s) :=
    exec_mScl0_of_high (by simp) ((countRefused_rise v s).trans hc)
  exact (runInstrs_cons_of_next hrise).trans (runInstrs_cons_of_next hfall)

/-! ### The receiver -/

/-- The unit receives a byte: SCL low, SDA released by the slave, and overflow raised exactly at the eighth bit. -/
structure ReceivingByte (s : State) : Prop where
  scl : s.scl = false
  suMode : s.suMode = .rx
  suLen : s.suLen = .eight
  fOvf : s.fOvf = decide (s.suCnt = 8)
  sdaS : s.sdaS = true

/-- What a receiver makes of a bit `v` on the wire: it is shifted in and counted (R116, R117). -/
def receiveBit (s : State) (v : Bool) : State :=
  { s with sr := shiftIn s.sr v, suCnt := s.suCnt + 1, fOvf := decide (s.suCnt + 1 = 8), sdaM := v }

theorem receivingByte_receiveBit {s : State} (h : ReceivingByte s) (v : Bool) : ReceivingByte (receiveBit s v) :=
  ⟨h.scl, h.suMode, h.suLen, rfl, h.sdaS⟩

theorem fOvf_eq_false_of_suCnt_lt {s : State} (h : ReceivingByte s) (hlt : s.suCnt.toNat < 8) : s.fOvf = false := by
  have hne : ¬ s.suCnt = 8#4 := by bv_omega
  simp [h.fOvf, hne]

theorem countRefused_of_suCnt_lt {s : State} (hlt : s.suCnt.toNat < 8) : countRefused s = false := by
  have hroom : s.suCnt < 8#4 := by bv_omega
  simp [countRefused, hroom]

/-- With room for one bit more, a clocked bit is received. -/
theorem clockBit_eq_receiveBit {s : State} (h : ReceivingByte s) (hlt : s.suCnt.toNat < 8) (v : Bool) :
    clockBit v s = receiveBit s v := by
  have hovf := fOvf_eq_false_of_suCnt_lt h hlt
  obtain ⟨hscl, hmode, hlen, -, hsda⟩ := h
  by_cases hlast : s.suCnt + 1#4 = 8#4
  all_goals
    simp [clockBit, edgeFall, edgeRise, shifting, setScl, setSdaM, sda, suLenVal, receiveBit, *]

/-- Bits for which there is room are received one after the other. -/
theorem runInstrs_bitsEvents_of_receiving {s : State} (h : ReceivingByte s) (vs : List Bool)
    (hroom : s.suCnt.toNat + vs.length ≤ 8) :
    runInstrs ((bitsEvents s.sdaM vs).map eventInstr) s = .next (vs.foldl receiveBit s) := by
  induction vs generalizing s with
  | nil => rfl
  | cons v rest ih =>
    rw [List.length_cons] at hroom
    have hlt : s.suCnt.toNat < 8 := by omega
    have hcnt : (receiveBit s v).suCnt.toNat = s.suCnt.toNat + 1 := by
      simp only [receiveBit]
      bv_omega
    have hbit := runInstrs_bitEvents h.scl (countRefused_of_suCnt_lt hlt) v
    rw [clockBit_eq_receiveBit h hlt] at hbit
    rw [bitsEvents, List.map_append, runInstrs_append_of_next hbit]
    exact ih (receivingByte_receiveBit h v) (by omega)

/-- The sampled bit stands at bit 0 and every other bit has moved up by one (R116). -/
theorem getElem_shiftIn (sr : Byte) (v : Bool) (i : Nat) (hi : i < 8) :
    (shiftIn sr v)[i] = if i = 0 then v else sr.getLsbD (i - 1) := by
  have happend : (shiftIn sr v)[i] = (sr.extractLsb' 0 7 ++ BitVec.ofBool v)[i] := rfl
  rw [happend, BitVec.getElem_append]
  cases i <;> simp

/-- Eight bits shifted in push out what stood in the register: the first one ends in bit 7 (R63, R116). -/
theorem foldl_shiftIn_wireBits (sr b : Byte) : (wireBits b).foldl shiftIn sr = b := by
  ext i hi
  interval_cases i <;> simp [wireBits, getElem_shiftIn]

/-- A byte received from the first bit on. -/
theorem foldl_receiveBit_wireBits {s : State} (hcnt : s.suCnt = 0) (b : Byte) :
    (wireBits b).foldl receiveBit s = { s with sr := b, suCnt := 8, fOvf := true, sdaM := b.getLsbD 0 } := by
  calc (wireBits b).foldl receiveBit s
      = { s with sr := (wireBits b).foldl shiftIn s.sr, suCnt := 8, fOvf := true, sdaM := b.getLsbD 0 } := by
        simp [wireBits, receiveBit, hcnt]
    _ = _ := by rw [foldl_shiftIn_wireBits]

/-- Settles O51: the eight bits of the token have room from a count of 0. -/
theorem receiverAssemblesTheByteMsbFirst : Obligations.ReceiverAssemblesTheByteMsbFirst := by
  unfold Obligations.ReceiverAssemblesTheByteMsbFirst
  intro s b hscl hmode hlen hcnt hovf hsda
  have hs : ReceivingByte s := ⟨hscl, hmode, hlen, by simp [hovf, hcnt], hsda⟩
  rw [← foldl_receiveBit_wireBits hcnt b]
  exact runInstrs_bitsEvents_of_receiving hs (wireBits b) (by simp [hcnt, wireBits])

end Sys2Proof.Machine
end

section
/-! SUPPORT. The encoding: what the two fields of an address byte and of a command word are, that the decoder reads
exactly the words of well-formed instructions (O3, O4), and from it which words are refused (O5), which bytes select
the block (O6) and words written out (O7). -/

namespace Sys2Proof

/-! ### The fields of a command word -/

theorem toNat_commandWord (code : BitVec 4) (operand : Byte) :
    (commandWord code operand).toNat = code.toNat * 256 + operand.toNat := by
  have hc := code.isLt
  have ho := operand.isLt
  rw [commandWord, BitVec.toNat_setWidth, BitVec.toNat_append, ← Nat.shiftLeft_add_eq_or_of_lt ho, Nat.shiftLeft_eq]
  omega

theorem toNat_commandCode (w : CodeWord) : (commandCode w).toNat = w.toNat / 256 % 16 := by
  simp [commandCode, Nat.shiftRight_eq_div_pow]

theorem toNat_commandOperand (w : CodeWord) : (commandOperand w).toNat = w.toNat % 256 := by
  simp [commandOperand]

@[simp] theorem commandCode_commandWord (code : BitVec 4) (operand : Byte) :
    commandCode (commandWord code operand) = code := by
  have := operand.isLt
  apply BitVec.eq_of_toNat_eq
  rw [toNat_commandCode, toNat_commandWord]
  omega

@[simp] theorem commandOperand_commandWord (code : BitVec 4) (operand : Byte) :
    commandOperand (commandWord code operand) = operand := by
  apply BitVec.eq_of_toNat_eq
  rw [toNat_commandOperand, toNat_commandWord]
  omega

/-- A word of 12 bits is its code and its operand (R92). -/
theorem commandWord_commandCode_commandOperand {w : CodeWord} (hw : w.toNat < 2 ^ 12) :
    commandWord (commandCode w) (commandOperand w) = w := by
  apply BitVec.eq_of_toNat_eq
  rw [toNat_commandWord, toNat_commandCode, toNat_commandOperand]
  omega

/-! ### The fields of an address byte -/

theorem toNat_addressWord (addr7 : BitVec 7) (rw : Bool) :
    (addressWord addr7 rw).toNat = addr7.toNat * 2 + rw.toNat := by
  have ha := addr7.isLt
  have hr := (BitVec.ofBool rw).isLt
  rw [addressWord, BitVec.toNat_setWidth, BitVec.toNat_append, ← Nat.shiftLeft_add_eq_or_of_lt hr, Nat.shiftLeft_eq,
    BitVec.toNat_ofBool]
  rw [BitVec.toNat_ofBool] at hr
  omega

theorem toNat_addressField (b : Byte) : (addressField b).toNat = b.toNat / 2 := by
  have := b.isLt
  simp only [addressField, BitVec.extractLsb'_toNat, Nat.shiftRight_eq_div_pow]
  omega

theorem rwField_eq (b : Byte) : rwField b = decide (b.toNat % 2 = 1) := by
  simp [rwField, BitVec.getLsbD]

@[simp] theorem addressField_addressWord (addr7 : BitVec 7) (rw : Bool) :
    addressField ((addressWord addr7 rw).setWidth 8) = addr7 := by
  have := addr7.isLt
  have := rw.toNat_lt
  apply BitVec.eq_of_toNat_eq
  rw [toNat_addressField, BitVec.toNat_setWidth, toNat_addressWord]
  omega

@[simp] theorem rwField_addressWord (addr7 : BitVec 7) (rw : Bool) :
    rwField ((addressWord addr7 rw).setWidth 8) = rw := by
  rw [rwField_eq, BitVec.toNat_setWidth, toNat_addressWord]
  cases rw <;> simp

/-- An address byte is its address and its direction bit (R81). -/
theorem addressWord_addressField_rwField (b : Byte) : addressWord (addressField b) (rwField b) = b.setWidth 16 := by
  have := b.isLt
  apply BitVec.eq_of_toNat_eq
  rw [toNat_addressWord, toNat_addressField, rwField_eq, BitVec.toNat_setWidth]
  rcases Nat.mod_two_eq_zero_or_one b.toNat with heven | hodd
  · simp [heven]
    omega
  · simp [hodd]
    omega

theorem wellFormed_addrOther_iff {addr7 : BitVec 7} {rw : Bool} :
    WellFormed (.addrOther addr7 rw) ↔ addr7 ≠ Config.deviceAddress := by
  simp [WellFormed, Instr.wellFormed]

/-! ### The word of an instruction is read as that instruction -/

theorem toNat_encode_lt (i : Instr) : (encode i).toNat < 2 ^ (formatOf i).width := by
  cases i with
  | addrOther addr7 rw => exact Laws.EncodingFits.addrOther addr7 rw
  | data b => exact Laws.EncodingFits.data b
  | sendByte value => exact Laws.EncodingFits.sendByte value
  | writeAll b => exact Laws.EncodingFits.writeAll b
  | _ => decide

/-- The decoder reads the word of a well-formed instruction as that instruction: of the four rows with an operand by
the fields of the word, of the others by evaluating the decoder on the one word. -/
theorem decode_encode {i : Instr} (h : WellFormed i) : decode (formatOf i) (encode i) = .ok i := by
  unfold decode
  rw [if_pos (toNat_encode_lt i)]
  cases i with
  | addrOther addr7 rw => simp [formatOf, encode, decodeAddress, wellFormed_addrOther_iff.1 h]
  | data b => simp [formatOf, encode]
  | sendByte value => simp [formatOf, encode, decodeShiftCommand]
  | writeAll b => simp [formatOf, encode, decodePortCommand]
  | _ => rfl

/-! ### A word that is read is the word of its instruction -/

/-- The instruction is a row of the format and this is its word. -/
abbrev IsRow (f : Format) (w : CodeWord) (i : Instr) : Prop := formatOf i = f ∧ encode i = w ∧ WellFormed i

theorem isRow_decodeAddress (b : Byte) : IsRow .addr8 (b.setWidth 16) (decodeAddress b) := by
  rw [← addressWord_addressField_rwField b, decodeAddress]
  split
  case isTrue hself =>
    rw [hself]
    cases rwField b <;> exact ⟨rfl, rfl, rfl⟩
  case isFalse hother => exact ⟨rfl, rfl, wellFormed_addrOther_iff.2 hother⟩

theorem isRow_decodeEvent (c : BitVec 2) : IsRow .ev2 (c.setWidth 16) (decodeEvent c) := by
  revert c
  decide

/-- A 12-bit word with this code is the command word of that code and its own operand. -/
theorem commandWord_of_toNat_commandCode {w : CodeWord} {code : BitVec 4} (hw : w.toNat < 2 ^ 12)
    (hcode : (commandCode w).toNat = code.toNat) : commandWord code (commandOperand w) = w := by
  rw [← BitVec.eq_of_toNat_eq hcode]
  exact commandWord_commandCode_commandOperand hw

/-- A command without operand is read from the one word of its code that has a zero operand (R92). -/
theorem isRow_of_withoutOperand {f : Format} {w : CodeWord} {i j : Instr} {code : BitVec 4}
    (hrow : IsRow f (commandWord code 0) i) (hw : w.toNat < 2 ^ 12) (hcode : (commandCode w).toNat = code.toNat)
    (h : withoutOperand f w i = .ok j) : IsRow f w j := by
  obtain ⟨hzero, rfl⟩ := withoutOperand_ok_iff.1 h
  rwa [← commandWord_of_toNat_commandCode hw hcode, hzero]

theorem isRow_of_decodeShiftCommand {w : CodeWord} {i : Instr} (hw : w.toNat < 2 ^ 12)
    (h : decodeShiftCommand w = .ok i) : IsRow .scmd12 w i := by
  unfold decodeShiftCommand at h
  split at h
  case h_6 hcode =>
    cases h
    exact ⟨rfl, commandWord_of_toNat_commandCode hw hcode, rfl⟩
  case h_8 => cases h
  all_goals exact isRow_of_withoutOperand ⟨rfl, rfl, rfl⟩ hw ‹_› h

theorem isRow_of_decodePortCommand {w : CodeWord} {i : Instr} (hw : w.toNat < 2 ^ 12)
    (h : decodePortCommand w = .ok i) : IsRow .pcmd12 w i := by
  unfold decodePortCommand at h
  split at h
  case h_3 hcode =>
    cases h
    exact ⟨rfl, commandWord_of_toNat_commandCode hw hcode, rfl⟩
  case h_5 => cases h
  all_goals exact isRow_of_withoutOperand ⟨rfl, rfl, rfl⟩ hw ‹_› h

theorem isRow_of_decodePhaseCode {w : CodeWord} {i : Instr} (h : decodePhaseCode w = .ok i) : IsRow .phase5 w i := by
  unfold decodePhaseCode at h
  split at h <;> cases h
  all_goals exact ⟨rfl, BitVec.eq_of_toNat_eq (Eq.symm ‹_›), rfl⟩

/-- A word with no bit above the format's width is what its lower bits are. -/
theorem setWidth_setWidth_of_lt {n : Nat} {w : CodeWord} (hw : w.toNat < 2 ^ n) : (w.setWidth n).setWidth 16 = w := by
  have := w.isLt
  apply BitVec.eq_of_toNat_eq
  rw [BitVec.toNat_setWidth, BitVec.toNat_setWidth, Nat.mod_eq_of_lt hw, Nat.mod_eq_of_lt this]

/-- What the decoder reads is a row of the format and has this word, format by format. -/
theorem isRow_of_decode {f : Format} {w : CodeWord} {i : Instr} (h : decode f w = .ok i) : IsRow f w i := by
  unfold decode at h
  split at h
  case isFalse => cases h
  case isTrue hw =>
    cases f with
    | addr8 =>
      cases h
      have hrow := isRow_decodeAddress (w.setWidth 8)
      rwa [setWidth_setWidth_of_lt (n := 8) hw] at hrow
    | data8 =>
      cases h
      exact ⟨rfl, setWidth_setWidth_of_lt hw, rfl⟩
    | ev2 =>
      cases h
      have hrow := isRow_decodeEvent (w.setWidth 2)
      rwa [setWidth_setWidth_of_lt (n := 2) hw] at hrow
    | scmd12 => exact isRow_of_decodeShiftCommand hw h
    | pcmd12 => exact isRow_of_decodePortCommand hw h
    | phase5 => exact isRow_of_decodePhaseCode h

/-- Settles O3: the decoder undoes the encoder. -/
theorem decodingAnEncodedInstructionGivesItBack : Obligations.DecodingAnEncodedInstructionGivesItBack := by
  unfold Obligations.DecodingAnEncodedInstructionGivesItBack
  exact fun _ => decode_encode

/-- Settles O4: the encoder undoes the decoder. -/
theorem everyDecodedWordIsItsInstructionsEncoding : Obligations.EveryDecodedWordIsItsInstructionsEncoding := by
  unfold Obligations.EveryDecodedWordIsItsInstructionsEncoding
  exact fun _ _ _ => isRow_of_decode

/-- The decoder is the inverse of the encoder: what it reads from a word are the well-formed instructions of the
format that have this word. -/
theorem decode_ok_iff {f : Format} {w : CodeWord} {i : Instr} : decode f w = .ok i ↔ IsRow f w i := by
  constructor
  · exact isRow_of_decode
  · rintro ⟨rfl, rfl, hwf⟩
    exact decode_encode hwf

/-! ### The refused words -/

/-- Every 12-bit word is a command word (R92). -/
theorem exists_commandWord_eq {w : CodeWord} (hw : w.toNat < 2 ^ 12) : ∃ code operand, commandWord code operand = w :=
  ⟨_, _, commandWord_commandCode_commandOperand hw⟩

theorem toNat_commandWord_div (code : BitVec 4) (operand : Byte) :
    (commandWord code operand).toNat / 256 = code.toNat := by
  have := operand.isLt
  rw [toNat_commandWord]
  omega

theorem toNat_commandWord_mod (code : BitVec 4) (operand : Byte) :
    (commandWord code operand).toNat % 256 = operand.toNat := by
  rw [toNat_commandWord]
  omega

theorem exists_ok_iff_isOk {ε α : Type} {x : Except ε α} : (∃ a, x = .ok a) ↔ x.isOk = true := by
  cases x <;> simp [Except.isOk, Except.toBool]

/-- A command format reads a word where it reads its code with a zero operand, and the word's operand is zero or the
code the one that takes an operand (R92, R93). -/
theorem exists_decode_of_command {f : Format} {wide : BitVec 4} {w : CodeWord} (hw : w.toNat < 2 ^ 12)
    (hwide : ∀ operand, ∃ i, decode f (commandWord wide operand) = .ok i)
    (hzero : (decode f (commandWord (commandCode w) 0)).isOk = true)
    (hoperand : w.toNat / 256 ≠ wide.toNat → w.toNat % 256 = 0) : ∃ i, decode f w = .ok i := by
  obtain ⟨code, operand, rfl⟩ := exists_commandWord_eq hw
  rw [commandCode_commandWord] at hzero
  rw [toNat_commandWord_div, toNat_commandWord_mod] at hoperand
  by_cases hcode : code = wide
  · rw [hcode]
    exact hwide operand
  · obtain rfl : operand = 0 := BitVec.eq_of_toNat_eq (hoperand (by bv_omega))
    exact exists_ok_iff_isOk.2 hzero

/-- R92: codes 1 to 7 are assigned, and only SEND_BYTE, code 6, has an operand. -/
theorem exists_decode_scmd12_iff (w : CodeWord) :
    (∃ i, decode .scmd12 w = .ok i) ↔
      1 ≤ w.toNat / 256 ∧ w.toNat / 256 ≤ 7 ∧ (w.toNat / 256 ≠ 6 → w.toNat % 256 = 0) := by
  constructor
  · rintro ⟨i, h⟩
    obtain ⟨hf, rfl, -⟩ := isRow_of_decode h
    cases i with
    | sendByte value => simp [encode, toNat_commandWord_div]
    | arm | beginAddr | sdaIn | sendAck | readAck | recvByte => decide
    | _ => cases hf
  · rintro ⟨hlow, hhigh, hoperand⟩
    have hcodes : ∀ code : BitVec 4, 1 ≤ code.toNat ∧ code.toNat ≤ 7 →
        (decode .scmd12 (commandWord code 0)).isOk = true := by decide
    exact exists_decode_of_command (wide := 6) (by omega)
      (fun operand => ⟨.sendByte operand, decode_ok_iff.2 ⟨rfl, rfl, rfl⟩⟩)
      (hcodes _ (by rw [toNat_commandCode]; omega)) hoperand

/-- R93: codes 8 to 11 are assigned, and only WRITE_ALL, code 10, has an operand. -/
theorem exists_decode_pcmd12_iff (w : CodeWord) :
    (∃ i, decode .pcmd12 w = .ok i) ↔
      8 ≤ w.toNat / 256 ∧ w.toNat / 256 ≤ 11 ∧ (w.toNat / 256 ≠ 10 → w.toNat % 256 = 0) := by
  constructor
  · rintro ⟨i, h⟩
    obtain ⟨hf, rfl, -⟩ := isRow_of_decode h
    cases i with
    | writeAll b => simp [encode, toNat_commandWord_div]
    | setInput | setOutput | readAll => decide
    | _ => cases hf
  · rintro ⟨hlow, hhigh, hoperand⟩
    have hcodes : ∀ code : BitVec 4, 8 ≤ code.toNat ∧ code.toNat ≤ 11 →
        (decode .pcmd12 (commandWord code 0)).isOk = true := by decide
    exact exists_decode_of_command (wide := 10) (by omega)
      (fun operand => ⟨.writeAll operand, decode_ok_iff.2 ⟨rfl, rfl, rfl⟩⟩)
      (hcodes _ (by rw [toNat_commandCode]; omega)) hoperand

/-- R95: codes 26 to 31 are reserved. -/
theorem exists_decode_phase5_iff (w : CodeWord) : (∃ i, decode .phase5 w = .ok i) ↔ w.toNat ≤ 25 := by
  constructor
  · rintro ⟨i, h⟩
    obtain ⟨hf, rfl, -⟩ := isRow_of_decode h
    cases i with
    | addrWrite | addrRead | addrOther _ _ | data _ | mScl0 | mScl1 | mSda0 | mSda1 => cases hf
    | arm | beginAddr | sdaIn | sendAck | readAck | sendByte _ | recvByte => cases hf
    | setInput | setOutput | writeAll _ | readAll => cases hf
    | _ => decide
  · intro hw
    obtain ⟨code, rfl⟩ : ∃ code : Fin 26, w = BitVec.ofNat 16 code := ⟨⟨w.toNat, by omega⟩, by simp⟩
    rw [exists_ok_iff_isOk]
    clear hw
    revert code
    decide

/-- Where the lower bits of a word are always an instruction, the format reads every word of its width (R81, R84,
R94). -/
theorem exists_decode_iff_of_total {f : Format} {w : CodeWord} {i : Instr}
    (h : w.toNat < 2 ^ f.width → decode f w = .ok i) : (∃ j, decode f w = .ok j) ↔ w.toNat < 2 ^ f.width := by
  constructor
  · rintro ⟨j, hj⟩
    by_contra hwide
    rw [decode_of_wide hwide] at hj
    cases hj
  · exact fun hw => ⟨i, h hw⟩

/-- Settles O5, format by format. -/
theorem reservedCodesAreExactlyTheRefusedWords : Obligations.ReservedCodesAreExactlyTheRefusedWords := by
  unfold Obligations.ReservedCodesAreExactlyTheRefusedWords
  refine fun w => ⟨exists_decode_scmd12_iff w, exists_decode_pcmd12_iff w, exists_decode_phase5_iff w, ?_, ?_, ?_⟩
  · exact (exists_decode_iff_of_total (f := .ev2) (fun hw => if_pos hw)).trans Nat.lt_succ_iff
  · exact (exists_decode_iff_of_total (f := .addr8) (fun hw => if_pos hw)).trans Nat.lt_succ_iff
  · exact (exists_decode_iff_of_total (f := .data8) (fun hw => if_pos hw)).trans Nat.lt_succ_iff

/-! ### Address bytes -/

/-- An address row is read from one byte only. -/
theorem decode_addr8_ok_iff {b : Byte} {i : Instr} (hf : formatOf i = .addr8) (hwf : WellFormed i) :
    decode .addr8 (b.setWidth 16) = .ok i ↔ b = (encode i).setWidth 8 := by
  rw [decode_ok_iff]
  constructor
  · rintro ⟨-, hword, -⟩
    simp [hword]
  · rintro rfl
    have hfits : (encode i).toNat < 2 ^ 8 := by simpa only [hf, Format.width] using toNat_encode_lt i
    exact ⟨hf, (setWidth_setWidth_of_lt hfits).symm, hwf⟩

/-- The two bytes that carry the device address (R83). -/
theorem eq_of_addressField_eq {b : Byte} (h : addressField b = Config.deviceAddress) : b = 0x84 ∨ b = 0x85 := by
  have haddr := congrArg BitVec.toNat h
  rw [toNat_addressField] at haddr
  have hdev : Config.deviceAddress.toNat = 66 := rfl
  bv_omega

theorem addressField_eq_setWidth (b : Byte) : addressField b = (b >>> 1).setWidth 7 := by
  have := b.isLt
  apply BitVec.eq_of_toNat_eq
  rw [toNat_addressField, BitVec.toNat_setWidth, BitVec.toNat_ushiftRight, Nat.shiftRight_eq_div_pow]
  omega

/-- Settles O6: each clause says which byte is the instruction's word. -/
theorem onlyTwoAddressBytesSelectTheBlock : Obligations.OnlyTwoAddressBytesSelectTheBlock := by
  unfold Obligations.OnlyTwoAddressBytesSelectTheBlock
  intro b
  refine ⟨decode_addr8_ok_iff (i := .addrWrite) rfl rfl, decode_addr8_ok_iff (i := .addrRead) rfl rfl, ?_⟩
  intro hwrite hread
  have hother : addressField b ≠ Config.deviceAddress := by
    intro hself
    rcases eq_of_addressField_eq hself with hb | hb
    · exact hwrite hb
    · exact hread hb
  rw [decode_ok_iff, ← addressField_eq_setWidth]
  exact ⟨rfl, addressWord_addressField_rwField b, wellFormed_addrOther_iff.2 hother⟩

/-- Settles O7: each word is the encoding of its instruction. -/
theorem sampleWordsDecodeAsTheTablesSay : Obligations.SampleWordsDecodeAsTheTablesSay := by
  unfold Obligations.SampleWordsDecodeAsTheTablesSay
  simp only [decode_ok_iff]
  decide

end Sys2Proof
end

section
/-! SUPPORT. The pin map bit by bit (O8), and the row of a data byte (O37). -/

namespace Sys2Proof.Machine

/-! ### The pin map -/

theorem getElem_toG1 (b : Byte) (i : Nat) (hi : i < 8) : (toG1 b)[i] = (b[i] && Config.maskG1[i]) :=
  BitVec.getElem_and hi

theorem getElem_toG2 (b : Byte) (i : Nat) (hi : i < 8) : (toG2 b)[i] = (b.getLsbD (4 + i) && Config.maskG2[i]) := by
  simp [toG2]

/-- Bits 4 to 6 of the logical byte come from group 2, the others from group 1 (R86). -/
theorem getElem_fromG (p1 p2 : Byte) (i : Nat) (hi : i < 8) :
    (fromG p1 p2)[i] = ((p1[i] && Config.maskG1[i]) ||
      (!decide (i < 4) && (p2[i - 4] && Config.maskG2[i - 4]))) := by
  simp [fromG]

theorem fromG_toG1_toG2 (b : Byte) : fromG (toG1 b) (toG2 b) = b := by
  ext i hi
  interval_cases i <;> simp [getElem_fromG, getElem_toG1, getElem_toG2, Config.maskG1, Config.maskG2]

/-- The two masks are disjoint once group 2's is moved to its place, so the other group's levels are dropped (R86). -/
theorem toG1_fromG (p1 p2 : Byte) : toG1 (fromG p1 p2) = p1 &&& Config.maskG1 := by
  ext i hi
  interval_cases i <;> simp [getElem_fromG, getElem_toG1, Config.maskG1, Config.maskG2]

theorem toG2_fromG (p1 p2 : Byte) : toG2 (fromG p1 p2) = p2 &&& Config.maskG2 := by
  ext i hi
  interval_cases i <;> simp [getElem_fromG, getElem_toG2, Config.maskG1, Config.maskG2]

/-- Settles O8: the round trips bit by bit, and each tabled bit by the map's shift and mask. -/
theorem pinMapIsTheBijectionOfTheTable : Obligations.PinMapIsTheBijectionOfTheTable := by
  unfold Obligations.PinMapIsTheBijectionOfTheTable
  intro b p1 p2
  refine ⟨fromG_toG1_toG2 b, toG1_fromG p1 p2, toG2_fromG p1 p2, ?_⟩
  simp [toG1, toG2, Config.maskG1, Config.maskG2, BitVec.and_assoc]

/-! ### The row of a data byte -/

/-- Where of the lines only the slave's drive moves, a condition is that move under a high SCL and a released master
(R114). -/
theorem detect_of_sdaS_moved (s t : State) (hscl : t.scl = s.scl) (hsda : t.sdaM = s.sdaM) :
    detect s t = { t with fStart := t.fStart || (s.scl && s.sdaM && s.sdaS && !t.sdaS),
                          fStop := t.fStop || (s.scl && s.sdaM && !s.sdaS && t.sdaS) } := by
  rw [detect, startSeen, stopSeen, sda, sda, hscl, hsda]
  cases s.scl <;> cases s.sdaM <;> simp

/-- Settles O37: keeping the byte leaves SDA alone, sending it may make a condition. -/
theorem dataByteIsKeptOrSent : Obligations.DataByteIsKeptOrSent := by
  unfold Obligations.DataByteIsKeptOrSent
  intro s b
  constructor
  · intro hdir
    have hkept : ownWrites (.data b) s = captureByte b s := if_pos hdir
    refine exec_next_iff.2 ⟨rfl, ?_⟩
    rw [hkept]
    exact (detect_eq_of_drives_eq (s := s) (t := captureByte b s) rfl rfl).symm
  · intro hdir
    have hsent : ownWrites (.data b) s = presentByte b s := if_neg (by simp [hdir])
    refine exec_next_iff.2 ⟨rfl, ?_⟩
    rw [hsent]
    exact (detect_of_sdaS_moved s (presentByte b s) rfl rfl).symm

end Sys2Proof.Machine
end

section
/-! SUPPORT. The events of a script's tokens, each enabled in its turn (O57), and the loading of a whole transaction
(O60). -/

namespace Sys2Proof.Machine

/-! ### Events one after the other -/

theorem afterEvents_append (m : MasterLines) (es fs : List MasterEvent) :
    afterEvents m (es ++ fs) = (afterEvents m es).bind (fun n => afterEvents n fs) := by
  induction es generalizing m with
  | nil => rfl
  | cons e es ih =>
    simp only [List.cons_append, afterEvents, ih]
    split <;> rfl

/-- Events that are enabled in turn leave what they leave when their preconditions are not asked for. -/
theorem foldl_afterEvent_of_afterEvents {m n : MasterLines} {es : List MasterEvent} (h : afterEvents m es = some n) :
    es.foldl afterEvent m = n := by
  induction es generalizing m with
  | nil => exact Option.some.inj h
  | cons e es ih =>
    rw [afterEvents] at h
    split at h
    · exact ih h
    · cases h

theorem afterEvents_driveTo (m : MasterLines) (v : Bool) :
    afterEvents m (driveTo m.sdaM v) = some { m with sdaM := v } := by
  obtain ⟨scl, sdaM⟩ := m
  cases sdaM <;> cases v <;> rfl

theorem afterEvents_bitEvents {m : MasterLines} (h : m.scl = false) (v : Bool) :
    afterEvents m (bitEvents m.sdaM v) = some { scl := false, sdaM := v } := by
  simp [bitEvents, afterEvents_append, afterEvents_driveTo, afterEvents, eventEnabled, afterEvent, h]

theorem afterEvents_bitsEvents {m : MasterLines} (h : m.scl = false) (vs : List Bool) :
    ∃ n, afterEvents m (bitsEvents m.sdaM vs) = some n ∧ n.scl = false := by
  induction vs generalizing m with
  | nil => exact ⟨m, rfl, h⟩
  | cons v vs ih =>
    rw [bitsEvents, afterEvents_append, afterEvents_bitEvents h v]
    exact ih (m := { scl := false, sdaM := v }) rfl

/-! ### Tokens -/

/-- S needs an idle bus, CTL nothing, every other token SCL low (R97). -/
theorem tokenEnabled_iff (m : MasterLines) (k : Token) :
    tokenEnabled m k = true ↔
      (match k with | .start => m.scl = true ∧ m.sdaM = true | .ctl => True | _ => m.scl = false) := by
  cases k <;> simp [tokenEnabled]

/-- The lines a token leaves: an idle bus after P, what they were after CTL, SCL low after any other (R98). -/
def TokenLeaves (k : Token) (m n : MasterLines) : Prop :=
  match k with
  | .stop => n = { scl := true, sdaM := true }
  | .ctl => n = m
  | _ => n.scl = false

theorem afterEvents_tokenEvents {m : MasterLines} {k : Token} (h : tokenEnabled m k = true) :
    ∃ n, afterEvents m (tokenEvents m k) = some n ∧ TokenLeaves k m n := by
  have henabled := (tokenEnabled_iff m k).1 h
  cases k with
  | start =>
    obtain ⟨hscl, hsda⟩ := henabled
    refine ⟨{ scl := false, sdaM := false }, ?_, rfl⟩
    simp [tokenEvents, afterEvents, eventEnabled, afterEvent, hscl, hsda]
  | repeatedStart =>
    have hlow : m.scl = false := henabled
    refine ⟨{ scl := false, sdaM := false }, ?_, rfl⟩
    simp [tokenEvents, afterEvents_append, afterEvents_driveTo, afterEvents, eventEnabled, afterEvent, hlow]
  | stop =>
    have hlow : m.scl = false := henabled
    refine ⟨{ scl := true, sdaM := true }, ?_, rfl⟩
    simp [tokenEvents, afterEvents_append, afterEvents_driveTo, afterEvents, eventEnabled, afterEvent, hlow]
  | write8 b => exact afterEvents_bitsEvents henabled (wireBits b)
  | read8 => exact afterEvents_bitsEvents henabled (List.replicate 8 true)
  | readAck | masterNack => exact ⟨_, afterEvents_bitEvents henabled true, rfl⟩
  | masterAck => exact ⟨_, afterEvents_bitEvents henabled false, rfl⟩
  | bit v => exact ⟨_, afterEvents_bitEvents henabled v, rfl⟩
  | ctl => exact ⟨m, rfl, rfl⟩

/-- The events of a token whose precondition holds are enabled in turn, and it leaves the lines as it says. -/
theorem afterToken_spec {m : MasterLines} {k : Token} (h : tokenEnabled m k = true) :
    afterEvents m (tokenEvents m k) = some (afterToken m k) ∧ TokenLeaves k m (afterToken m k) := by
  obtain ⟨n, hevents, hleaves⟩ := afterEvents_tokenEvents h
  obtain rfl : afterToken m k = n := foldl_afterEvent_of_afterEvents hevents
  exact ⟨hevents, hleaves⟩

/-- Settles O57 by what each token leaves of the lines. -/
theorem scriptTokensExpandToEnabledEvents : Obligations.ScriptTokensExpandToEnabledEvents := by
  unfold Obligations.ScriptTokensExpandToEnabledEvents
  intro m k
  refine ⟨tokenEnabled_iff m k, fun h => ?_⟩
  obtain ⟨hevents, hleaves⟩ := afterToken_spec h
  refine ⟨hevents, ?_, ?_, ?_⟩
  · rintro rfl
    rfl
  · rintro rfl
    exact hleaves
  · intro hstop hctl
    cases k with
    | stop => exact absurd rfl hstop
    | ctl => exact absurd rfl hctl
    | _ => exact hleaves

/-! ### Whole transactions -/

/-- A token that needs SCL low and leaves it low. -/
def keepsSclLow : Token → Bool
  | .start | .stop | .ctl => false
  | _ => true

theorem tokenEnabled_of_keepsSclLow {m : MasterLines} {k : Token} (hm : m.scl = false) (hk : keepsSclLow k = true) :
    tokenEnabled m k = true := by
  cases k with
  | start | stop | ctl => cases hk
  | _ => simp [tokenEnabled, hm]

theorem afterToken_scl_of_keepsSclLow {m : MasterLines} {k : Token} (hm : m.scl = false) (hk : keepsSclLow k = true) :
    (afterToken m k).scl = false := by
  have hleaves := (afterToken_spec (tokenEnabled_of_keepsSclLow hm hk)).2
  cases k with
  | start | stop | ctl => cases hk
  | _ => exact hleaves

theorem scriptTurns_cons_of_enabled {m : MasterLines} {k : Token} {position : Nat} {rest : List Token}
    (hk : tokenEnabled m k = true) (hrest : ∃ turns, scriptTurns (afterToken m k) (position + 1) rest = .ok turns) :
    ∃ turns, scriptTurns m position (k :: rest) = .ok turns := by
  obtain ⟨turns, hturns⟩ := hrest
  exact ⟨tokenTurns m k ++ turns, by simp [scriptTurns, hk, hturns]⟩

/-- Under a low SCL tokens that keep it low, then P or Sr, all have their preconditions; after P the bus is idle. -/
theorem scriptTurns_of_scl_low {m : MasterLines} (hm : m.scl = false) {frames : List Token}
    (hframes : ∀ k ∈ frames, keepsSclLow k = true) {close : Token} (hclose : close = .stop ∨ close = .repeatedStart)
    (position : Nat) :
    (∃ turns, scriptTurns m position (frames ++ [close]) = .ok turns) ∧
      (close = .stop → (frames ++ [close]).foldl afterToken m = { scl := true, sdaM := true }) := by
  induction frames generalizing m position with
  | nil =>
    have henabled : tokenEnabled m close = true := by rcases hclose with rfl | rfl <;> simp [tokenEnabled, hm]
    refine ⟨scriptTurns_cons_of_enabled henabled ⟨[], rfl⟩, ?_⟩
    rintro rfl
    exact (afterToken_spec henabled).2
  | cons k frames ih =>
    obtain ⟨hk, hrest⟩ := List.forall_mem_cons.1 hframes
    obtain ⟨hturns, hidle⟩ := ih (afterToken_scl_of_keepsSclLow hm hk) hrest (position + 1)
    exact ⟨scriptTurns_cons_of_enabled (tokenEnabled_of_keepsSclLow hm hk) hturns, hidle⟩

/-- Every transaction is S, then tokens that keep SCL low, then P or Sr (R99). -/
theorem transactionScript_cases {script : List Token} (h : TransactionScript script) :
    ∃ frames close, script = .start :: (frames ++ [close]) ∧ (∀ k ∈ frames, keepsSclLow k = true) ∧
      (close = .stop ∨ close = .repeatedStart) := by
  obtain ⟨frames, close, hframes, hclose⟩ := h
  cases hframes with
  | notSelected a _ => exact ⟨[.write8 a, .readAck], close, rfl, by simp [keepsSclLow], hclose⟩
  | write a d _ _ => exact ⟨[.write8 a, .readAck, .write8 d, .readAck], close, rfl, by simp [keepsSclLow], hclose⟩
  | read a ack _ _ hack =>
    refine ⟨[.write8 a, .readAck, .read8, ack], close, rfl, ?_, hclose⟩
    rcases hack with rfl | rfl <;> simp [keepsSclLow]

/-- On an idle bus every token of a transaction has its precondition, and a transaction that ends in P leaves the bus
idle (R98, R99). -/
theorem scriptTurns_of_transactionScript {script : List Token} (h : TransactionScript script) :
    (∃ turns, scriptTurns { scl := true, sdaM := true } 0 script = .ok turns) ∧
      (script.getLast? = some .stop →
        script.foldl afterToken { scl := true, sdaM := true } = { scl := true, sdaM := true }) := by
  obtain ⟨frames, close, rfl, hframes, hclose⟩ := transactionScript_cases h
  have hstart : tokenEnabled { scl := true, sdaM := true } .start = true := rfl
  obtain ⟨hturns, hidle⟩ := scriptTurns_of_scl_low (afterToken_spec hstart).2 hframes hclose 1
  refine ⟨scriptTurns_cons_of_enabled hstart hturns, fun hlast => hidle ?_⟩
  rw [← List.cons_append, List.getLast?_concat] at hlast
  exact Option.some.inj hlast

/-- Settles O60: the schedule's controller turns are the hardware's own and leave the lines alone. -/
theorem wellFormedTransactionLoads : Obligations.WellFormedTransactionLoads := by
  unfold Obligations.WellFormedTransactionLoads
  refine ⟨fun _ _ => rfl, fun schedule script s hscript hagenda hscl hsda => ?_⟩
  obtain ⟨⟨turns, hturns⟩, hidle⟩ := scriptTurns_of_transactionScript hscript
  obtain ⟨hown, hlines⟩ := scriptTurns_spec script _ 0 turns hturns
  have hpending : pendingLines s = { scl := true, sdaM := true } := by simp [pendingLines, hagenda, hscl, hsda]
  refine ⟨interleave schedule turns, ?_, interleave_all rfl turns schedule hown, fun hlast => ?_⟩
  · simp [loadScheduled, hpending, hturns, hagenda]
  · rw [foldl_afterTurn_interleave, hlines]
    exact hidle hlast

end Sys2Proof.Machine
end

section
/-! SUPPORT. The bus master's four events: where each completes and the state it leaves (O15 to O19, O59), and the
start and stop flags after any instruction (O21). -/

namespace Sys2Proof.Machine

/-! ### The clock's edges -/

/-- Shifting a bit in is moving every bit up by one and setting the lowest (R116). -/
theorem shiftIn_eq_shiftLeft_or (sr : Byte) (v : Bool) : shiftIn sr v = (sr <<< 1) ||| (if v then 1 else 0) := by
  ext i hi
  interval_cases i <;> cases v <;> simp [getElem_shiftIn]

/-- The unit shifts and counts in a reception or a transmission until it overflows (R116 to R119). -/
theorem shifting_iff_rx_or_tx (s : State) :
    shifting s = true ↔ (s.suMode = .rx ∨ s.suMode = .tx) ∧ s.fOvf = false := by
  cases h : s.suMode <;> simp [shifting, h]

theorem shifting_eq_false_of_held {s : State} (h : s.fOvf = true ∨ s.suMode = .watch) : shifting s = false := by
  rw [Bool.eq_false_iff, Ne, shifting_iff]
  rcases h with h | h <;> simp [h]

/-- The falling edge is not refused where a unit that counts has room (R28, log 17). -/
theorem countRefused_eq_false_of_room {s : State} (h : s.suMode ≠ .watch → s.fOvf = false → s.suCnt < 8) :
    countRefused s = false := by
  rw [Bool.eq_false_iff, Ne, countRefused_iff]
  rintro ⟨⟨hwatch, hovf⟩, hfull⟩
  exact BitVec.not_lt.2 hfull (h hwatch hovf)

theorem edgeRise_of_not_shifting {s : State} (h : shifting s = false) : edgeRise s = s := by
  simp [edgeRise, h]

theorem edgeFall_of_not_shifting {s : State} (h : shifting s = false) : edgeFall s = s := by
  simp [edgeFall, h]

/-- Settles O15: the rising edge makes no condition, so its sample is all there is. -/
theorem risingEdgeSamplesTheLine : Obligations.RisingEdgeSamplesTheLine := by
  unfold Obligations.RisingEdgeSamplesTheLine
  intro s hscl
  rw [exec_mScl1_of_low hscl]
  congr 1
  by_cases hshift : (s.suMode = .rx ∨ s.suMode = .tx) ∧ s.fOvf = false
  · have hsh : shifting (setScl true s) = true := (shifting_iff_rx_or_tx s).2 hshift
    rw [if_pos hshift, edgeRise, if_pos hsh, shiftIn_eq_shiftLeft_or]
    rfl
  · have hsh : shifting (setScl true s) = false := Bool.eq_false_iff.2 (mt (shifting_iff_rx_or_tx s).1 hshift)
    rw [if_neg hshift, edgeRise_of_not_shifting hsh]
    rfl

/-- Settles O16 by the four cases of the falling edge. -/
theorem fallingEdgeCountsAndPresents : Obligations.FallingEdgeCountsAndPresents := by
  unfold Obligations.FallingEdgeCountsAndPresents
  intro s hscl hroom
  rw [exec_mScl0_of_high hscl (countRefused_eq_false_of_room hroom), edgeFall_setScl]
  congr 1
  change _ = if _ then if s.suCnt + 1 = suLenVal s.suLen then _ else _ else _
  have hshift := shifting_iff_rx_or_tx s
  rcases edgeFall_cases s with ⟨hsh, he⟩ | ⟨hsh, hcnt, he⟩ | ⟨hsh, hcnt, hmode, he⟩ | ⟨hsh, hcnt, hmode, he⟩
  · rw [he, if_neg (mt hshift.2 (by simp [hsh]))]
    rfl
  · rw [he, if_pos (hshift.1 hsh), if_pos hcnt]
    rfl
  · rw [he, if_pos (hshift.1 hsh), if_neg hcnt, if_pos hmode]
    rfl
  · rw [he, if_pos (hshift.1 hsh), if_neg hcnt, if_neg (by simp [hmode])]
    rfl

/-- Settles O19: a unit that does not shift neither samples, counts nor presents. -/
theorem overflowAndWatchHoldTheUnit : Obligations.OverflowAndWatchHoldTheUnit := by
  unfold Obligations.OverflowAndWatchHoldTheUnit
  intro s hheld
  have hsh : ∀ v, shifting (setScl v s) = false := fun _ => shifting_eq_false_of_held hheld
  have hcount : countRefused s = false := by simp [countRefused, shifting_eq_false_of_held hheld]
  constructor
  · intro hscl
    rw [exec_mScl1_of_low hscl, edgeRise_of_not_shifting (hsh true)]
    rfl
  · intro hscl
    rw [exec_mScl0_of_high hscl hcount, edgeFall_of_not_shifting (hsh false)]
    rfl

/-! ### The master's drive -/

/-- Where of the lines only the master's drive moves, a condition is that move under a high SCL and a released slave
(R114). -/
theorem detect_setSdaM (s : State) (v : Bool) :
    detect s (setSdaM v s) = { s with sdaM := v, fStart := s.fStart || (s.scl && s.sdaS && s.sdaM && !v),
                                      fStop := s.fStop || (s.scl && s.sdaS && !s.sdaM && v) } := by
  simp only [detect, startSeen, stopSeen, sda, setSdaM]
  cases s.scl <;> cases s.sdaS <;> simp

/-- Settles O17: a fall of a released drive is a start, a rise of a low one a stop. -/
theorem masterDriveMakesStartAndStop : Obligations.MasterDriveMakesStartAndStop := by
  unfold Obligations.MasterDriveMakesStartAndStop
  intro s
  constructor
  · intro hsda
    refine exec_next_iff.2 ⟨hsda, ?_⟩
    simp [ownWrites, detect_setSdaM, hsda]
  · intro hsda
    refine exec_next_iff.2 ⟨by simp [canRun, hsda], ?_⟩
    simp [ownWrites, detect_setSdaM, hsda]

/-- Settles O18: each event asks its line's level first. -/
theorem eventsNeedTheOtherLevel : Obligations.EventsNeedTheOtherLevel := by
  unfold Obligations.EventsNeedTheOtherLevel
  exact fun s => ⟨fun h => if_pos h, fun h => if_neg (by simp [h]), fun h => if_neg (by simp [h]), fun h => if_pos h⟩

/-- Settles O59: the edges by the state they leave, the drives by what their own writes are. -/
theorem eventsCompleteWhereEnabled : Obligations.EventsCompleteWhereEnabled := by
  unfold Obligations.EventsCompleteWhereEnabled
  intro s
  obtain ⟨hfall, hrise⟩ := masterDriveMakesStartAndStop s
  refine ⟨fun hscl => ?_, fun hscl hroom => ?_, fun hsda => ?_, fun hsda => ?_⟩
  · exact ⟨_, exec_mScl1_of_low hscl, by simp, by simp⟩
  · exact ⟨_, exec_mScl0_of_high hscl (countRefused_eq_false_of_room hroom), by simp, by simp⟩
  · exact ⟨_, hfall hsda, rfl, rfl⟩
  · exact ⟨_, hrise hsda, rfl, rfl⟩

/-! ### The start and stop flags -/

/-- The instruction is ARM or BEGIN_ADDR, or a phase that issues one (R141, R142). -/
def clearsConditions : Instr → Bool
  | .arm | .beginAddr | .addrBegin | .addrAbort | .addrReject | .rdRearm | .wrRearm => true
  | _ => false

theorem clearsConditions_iff (i : Instr) : clearsConditions i = true ↔
    i ∈ [Instr.arm, .beginAddr, .addrBegin, .addrAbort, .addrReject, .rdRearm, .wrRearm] := by
  cases i <;> simp [clearsConditions]

/-- Before the detectors both flags stand but where the instruction clears them (R115). -/
theorem ownWrites_conditions (i : Instr) (s : State) :
    (ownWrites i s).fStart = (s.fStart && !clearsConditions i) ∧
      (ownWrites i s).fStop = (s.fStop && !clearsConditions i) := by
  cases i with
  | data b => cases hd : s.dir <;> simp [ownWrites, clearsConditions, hd]
  | idle | addrWait | wrWaitRecv => simp only [ownWrites, clearsConditions]; split <;> simp
  | _ => simp [ownWrites, clearsConditions]

/-- Settles O21: what the instruction's own writes leave of a flag, or what the detector sees. -/
theorem startAndStopFlagsFollowTheDetectors : Obligations.StartAndStopFlagsFollowTheDetectors := by
  unfold Obligations.StartAndStopFlagsFollowTheDetectors
  intro i s t h
  obtain ⟨-, rfl⟩ := exec_next_iff.1 h
  obtain ⟨hstart, hstop⟩ := ownWrites_conditions i s
  simp only [← clearsConditions_iff, detect_fStart, detect_fStop, detect_scl, detect_sdaM, detect_sdaS, hstart, hstop,
    startSeen, stopSeen, sda]
  constructor <;>
    simp only [Bool.or_eq_true, Bool.and_eq_true, Bool.not_eq_true', Bool.not_eq_true, and_assoc]

end Sys2Proof.Machine
end

section
/-! SUPPORT. Who goes first: where the controller is quiescent (O12), and what a held event and CTL make of a step
(O10). -/

namespace Sys2Proof.Machine

/-! ### Quiescence -/

/-- A quiescent controller stands in a wait whose condition is false (R120). -/
theorem ownWrites_of_quiescent {s : State} (h : quiescent s = true) : ownWrites (phaseInstr s.phase) s = s := by
  cases hp : s.phase <;>
    simp_all [quiescent, phaseInstr, ownWrites, waitOvf, waitSclLow]

theorem dispatchTarget_ne_dispatch (d : Direction) (m : PortMode) : dispatchTarget d m ≠ .dispatch := by
  cases d <;> cases m <;> simp [dispatchTarget]

/-- A controller that is not quiescent leaves its phase (R120). -/
theorem ownWrites_phase_ne_of_not_quiescent {s : State} (h : quiescent s = false) :
    (ownWrites (phaseInstr s.phase) s).phase ≠ s.phase := by
  cases hp : s.phase with
  | addrWait =>
    cases hstop : s.fStop <;> simp_all [quiescent, phaseInstr, ownWrites, waitOvf]
  | addrCompare =>
    rcases compareAddress_cases (addressField s.sr) (rwField s.sr) s with ⟨-, he⟩ | ⟨-, he⟩ <;>
      simp [phaseInstr, ownWrites, he]
  | dispatch => exact dispatchTarget_ne_dispatch s.dir s.portMode
  | _ => simp_all [quiescent, phaseInstr, ownWrites, waitOvf, waitSclLow]

/-- The controller's step is its row's own writes, then the detectors: no phase's row asks for anything (R170). -/
theorem controllerStep_eq_detect (s : State) :
    controllerStep s = .next (detect s (ownWrites (phaseInstr s.phase) s)) := by
  rw [controllerStep_eq]
  exact exec_next_iff.2 ⟨by cases s.phase <;> rfl, rfl⟩

/-- Settles O12: a quiescent controller writes nothing, any other leaves its phase. -/
theorem quiescentExactlyWhenTheStepStays : Obligations.QuiescentExactlyWhenTheStepStays := by
  unfold Obligations.QuiescentExactlyWhenTheStepStays
  intro s
  rw [controllerStep_eq_detect]
  constructor
  · intro hq
    rw [ownWrites_of_quiescent hq, detect_self]
  · intro hstays
    by_contra hq
    have hphase := congrArg State.phase (Host.Outcome.next.inj hstays)
    exact ownWrites_phase_ne_of_not_quiescent (Bool.eq_false_iff.2 hq) hphase

/-! ### The order of the turns -/

/-- Where the agenda gives its own step to the controller and stays as it is, the step is the controller's. -/
theorem stepWith_of_fetchPhase {mw : Bool} {s : State} (hcnt : s.suCnt ≤ 8)
    (h : fetchTurn mw s s.agenda = fetchPhase s.agenda s) : stepWith mw s = controllerStep s := by
  rw [controllerStep_eq]
  exact stepWith_of_fetchTurn_run hcnt (h.trans (fetchPhase_eq s.agenda s))

/-- What a turn leads to depends on the turns it is asked about and not on those the state holds. -/
theorem fetchTurn_with_agenda (mw : Bool) (s : State) (a turns : List Turn) :
    fetchTurn mw { s with agenda := a } turns = fetchTurn mw s turns := by
  induction turns with
  | nil => rfl
  | cons head rest ih =>
    cases head with
    | settle =>
      rw [fetchTurn, fetchTurn, ih]
      rfl
    | controller | outside r => rfl
    | word f w => cases f <;> rfl

/-- A CTL that is over falls away (R97). -/
theorem stepWith_of_settle_over {mw : Bool} {s : State} {rest : List Turn} (hcnt : s.suCnt ≤ 8)
    (ha : s.agenda = .settle :: rest) (hq : quiescent s = true) :
    stepWith mw s = stepWith mw { s with agenda := rest } := by
  have hnext : fetchNext mw s = fetchNext mw { s with agenda := rest } :=
    calc fetchNext mw s
        = fetchTurn mw s (.settle :: rest) := by rw [fetchNext_of_le hcnt, ha]
      _ = fetchTurn mw s rest := if_pos hq
      _ = fetchTurn mw { s with agenda := rest } rest := (fetchTurn_with_agenda mw s rest rest).symm
      _ = fetchNext mw { s with agenda := rest } := (fetchNext_of_le (s := { s with agenda := rest }) hcnt).symm
  rw [stepWith, stepWith, hnext]

/-- Settles O10: a held event and a CTL that is not over stay at the head. -/
theorem controllerGoesFirstWhileNotQuiescent : Obligations.ControllerGoesFirstWhileNotQuiescent := by
  unfold Obligations.ControllerGoesFirstWhileNotQuiescent
  refine ⟨fun s w rest hcnt ha hq => ?_, fun mw s rest hcnt ha hq => ?_, fun mw s rest => stepWith_of_settle_over⟩
  · have hheld : masterHeld true s = true := by simp [masterHeld, hq]
    exact stepWith_of_fetchPhase hcnt (by rw [ha, fetchTurn, if_pos hheld])
  · exact stepWith_of_fetchPhase hcnt (by rw [ha, fetchTurn, if_neg (by simp [hq])])

end Sys2Proof.Machine
end

section
/-! SUPPORT. Runs in which the slave keeps up: what each phase knows of SCL and of the slave's drive is kept by every
step (O49), and so the controller moves SDA under a low SCL only (O50). -/

namespace Sys2Proof.Machine

/-! ### The controller's rows -/

/-- What a phase knows, it knows of fields the detectors leave alone (R114). -/
@[simp] theorem timelyPhase_detect (s t : State) : timelyPhase (detect s t) = timelyPhase t := rfl

/-- A wait keeps its knowledge if the phase it goes on to may rely on a shift that is complete. -/
theorem timelyPhase_waitOvf {p : Phase} {s : State} (h : timelyPhase s = true)
    (hgo : s.fOvf = true → timelyPhase (gotoPhase p s) = true) : timelyPhase (waitOvf p s) = true := by
  rcases waitOvf_cases p s with ⟨hovf, he⟩ | ⟨-, he⟩
  · rw [he]
    exact hgo hovf
  · rwa [he]

/-- The row of the controller's phase leaves what the next phase knows (R121). -/
theorem timelyPhase_ownWrites {s : State} (h : timelyPhase s = true) :
    timelyPhase (ownWrites (phaseInstr s.phase) s) = true := by
  cases hp : s.phase with
  | idle => cases hs : s.fStart <;> simp_all [phaseInstr, ownWrites, timelyPhase]
  | addrWaitSclLow =>
    rcases waitSclLow_cases .addrBegin s with ⟨-, he⟩ | ⟨-, he⟩ <;> simp_all [phaseInstr, ownWrites, timelyPhase]
  | addrWait =>
    cases hs : s.fStop with
    | true => simp_all [phaseInstr, ownWrites, timelyPhase]
    | false =>
      simp only [phaseInstr, ownWrites, hs, Bool.false_eq_true, if_false]
      exact timelyPhase_waitOvf h (fun hovf => by simp_all [timelyPhase])
  | addrCompare =>
    rcases compareAddress_cases (addressField s.sr) (rwField s.sr) s with ⟨-, he⟩ | ⟨-, he⟩ <;>
      simp_all [phaseInstr, ownWrites, timelyPhase]
  | dispatch =>
    cases hd : s.dir <;> cases hm : s.portMode <;> simp_all [phaseInstr, ownWrites, timelyPhase, dispatchTarget]
  | rdWaitAck | rdWaitSend | rdWaitMack | wrWaitAck | wrWaitSack =>
    exact timelyPhase_waitOvf h (fun hovf => by simp_all [timelyPhase])
  | wrWaitRecv => cases hs : s.fOvf <;> simp_all [phaseInstr, ownWrites, timelyPhase]
  | _ => simp_all [phaseInstr, ownWrites, timelyPhase]

/-- A phase either knows SDA to be released already or stands under a low SCL where its row moves SDA (R121). -/
theorem ownWrites_sdaS_of_timelyPhase {s : State} (h : timelyPhase s = true) :
    (ownWrites (phaseInstr s.phase) s).sdaS = s.sdaS ∨ s.scl = false := by
  cases hp : s.phase with
  | idle => cases hs : s.fStart <;> simp [phaseInstr, ownWrites, hs]
  | addrWait => cases hs : s.fStop <;> simp [phaseInstr, ownWrites, hs]
  | wrWaitRecv => cases hs : s.fOvf <;> simp [phaseInstr, ownWrites, hs]
  | _ => simp_all [phaseInstr, ownWrites, timelyPhase]

/-- A phase's row leaves the master's lines alone (R38). -/
theorem ownWrites_phaseInstr_sameBus (p : Phase) (s : State) : SameBus s (ownWrites (phaseInstr p) s) := by
  cases p with
  | idle | addrWait | wrWaitRecv => simp only [phaseInstr, ownWrites]; split <;> simp [SameBus]
  | _ => simp [phaseInstr, ownWrites, SameBus]

/-! ### The master's events -/

/-- The four rows of ev2 are the master's events (R94). -/
theorem exists_eventInstr_eq {i : Instr} (h : i = .mScl0 ∨ i = .mScl1 ∨ i = .mSda0 ∨ i = .mSda1) :
    ∃ e, i = eventInstr e := by
  rcases h with rfl | rfl | rfl | rfl
  exacts [⟨.scl0, rfl⟩, ⟨.scl1, rfl⟩, ⟨.sda0, rfl⟩, ⟨.sda1, rfl⟩]

/-- An event that is not held leaves what the waiting phase knows: only a transmission moves the slave's drive, and an
overflow is raised with SCL going low (R117, R120). -/
theorem timelyPhase_of_event {e : MasterEvent} {s t : State} (hq : quiescent s = true) (h : timelyPhase s = true)
    (he : exec (eventInstr e) s = .next t) : timelyPhase t = true := by
  obtain ⟨-, ⟨hphase, -⟩, -, hmode, -⟩ := exec_event_frame he
  have hsda : t.sdaS ≠ s.sdaS → s.suMode = .tx := by
    obtain ⟨-, -, -, -, -, hmoved, -⟩ := busMasterReachesNoOtherRegister e s t he
    exact fun hne => (hmoved hne).2
  have hovf : s.fOvf = false → t.fOvf = false ∨ t.scl = false := by
    intro hs
    refine or_iff_not_imp_left.2 fun ht => ?_
    rw [Bool.not_eq_false] at ht
    obtain ⟨hi, -⟩ := (overflowIsRaisedByEdgesAndClearedByCommands _ s t he).1 hs ht
    obtain ⟨-, rfl⟩ := exec_next_iff.1 he
    simp [hi, ownWrites]
  cases hp : s.phase <;> simp_all [quiescent, timelyPhase]

/-! ### Every step -/

theorem timelyInv_of_stepWith {s t : State} (hs : TimelyInv s) (h : stepWith true s = .next t) : TimelyInv t := by
  obtain ⟨hphase, hagenda⟩ := hs
  rcases stepWith_hardware_cases hagenda h with ⟨rest, hr, he⟩ | ⟨i, rest, hr, hi, hheld, he⟩ <;>
    refine ⟨?_, hardwareAgenda_subset hagenda (exec_agenda he ▸ hr)⟩
  · obtain ⟨-, rfl⟩ := exec_next_iff.1 he
    exact timelyPhase_ownWrites (s := { s with agenda := rest }) hphase
  · obtain ⟨e, rfl⟩ := exists_eventInstr_eq hi
    have hq : quiescent s = true := (masterHeld_eq_false_iff.1 hheld).resolve_left (by simp)
    exact timelyPhase_of_event (s := { s with agenda := rest }) hq hphase he

/-- Settles O49: the controller's row hands on what the next phase knows, and an event finds the controller waiting. -/
theorem everyTimelyStepKeepsThePhaseKnowledge : Obligations.EveryTimelyStepKeepsThePhaseKnowledge := by
  unfold Obligations.EveryTimelyStepKeepsThePhaseKnowledge
  exact fun _ _ => timelyInv_of_stepWith

/-- Settles O50: the controller moves no line of the master's, so SDA moves only with its own drive. -/
theorem timelyControllerMovesSdaOnlyUnderLowScl : Obligations.TimelyControllerMovesSdaOnlyUnderLowScl := by
  unfold Obligations.TimelyControllerMovesSdaOnlyUnderLowScl
  rintro s t ⟨hphase, -⟩ h
  rw [controllerStep_eq_detect] at h
  obtain rfl := Host.Outcome.next.inj h
  obtain ⟨-, hmaster⟩ := ownWrites_phaseInstr_sameBus s.phase s
  have hdrive := ownWrites_sdaS_of_timelyPhase hphase
  rw [detect_sdaS, detect_sdaM, hmaster]
  refine ⟨hdrive.resolve_left, ?_⟩
  rintro ⟨hhigh, -, hmoved⟩
  have hkept := hdrive.resolve_right (by simp [hhigh])
  exact hmoved (by rw [hkept])

end Sys2Proof.Machine
end

section
/-! SUPPORT. The shift unit's commands: the row each writes (O24), what a second ARM does (O25), and the byte a sender
presents (O52). -/

namespace Sys2Proof.Machine

/-! ### The seven rows -/

/-- An instruction that runs in every state and of the lines moves only the slave's drive: its own writes, and the
condition that move makes under a high SCL and a released master (R114, R115). -/
theorem exec_of_sdaS_moved {i : Instr} {s : State} (hrun : canRun i s = true)
    (hscl : (ownWrites i s).scl = s.scl) (hsda : (ownWrites i s).sdaM = s.sdaM) :
    exec i s = .next { ownWrites i s with
      fStart := (ownWrites i s).fStart || (s.scl && s.sdaM && s.sdaS && !(ownWrites i s).sdaS)
      fStop := (ownWrites i s).fStop || (s.scl && s.sdaM && !s.sdaS && (ownWrites i s).sdaS) } :=
  exec_next_iff.2 ⟨hrun, (detect_of_sdaS_moved s (ownWrites i s) hscl hsda).symm⟩

/-- Settles O24: each command's own writes, then the condition its move of SDA makes: releasing it can only make a
stop, pulling it low only a start. -/
theorem shiftCommandsWriteTheirRow : Obligations.ShiftCommandsWriteTheirRow := by
  unfold Obligations.ShiftCommandsWriteTheirRow
  intro s released
  refine ⟨?_, ?_, ?_, ?_, ?_, fun v => ?_, ?_⟩
  all_goals
    rw [exec_of_sdaS_moved rfl rfl rfl]
    simp [ownWrites, arm, beginAddr, sdaIn, sendAck, readAck, sendByte, recvByte, topBit, released]

/-! ### ARM twice -/

theorem arm_idempotent (s : State) : arm (arm s) = arm s := rfl

/-- ARM releases SDA unseen where SCL is low, the master holds SDA low or it is released already (R114, R141). -/
theorem detect_arm_of_unseen {s : State} (h : s.scl = false ∨ s.sdaM = false ∨ s.sdaS = true) :
    detect s (arm s) = arm s := by
  rcases h with hscl | hmaster | hslave
  · exact detect_eq_of_scl_low hscl
  · exact detect_eq_of_sda_eq (by simp [sda, hmaster])
  · exact detect_eq_of_drives_eq rfl (by simp [hslave])

/-- Settles O25: the first ARM leaves the armed state, from which a second one moves nothing. -/
theorem armIsIdempotent : Obligations.ArmIsIdempotent := by
  unfold Obligations.ArmIsIdempotent
  intro s t hfirst hunseen
  obtain ⟨-, ht⟩ := exec_next_iff.1 hfirst
  have harmed : t = arm s := ht.trans (detect_arm_of_unseen hunseen)
  refine exec_next_iff.2 ⟨rfl, ?_⟩
  rw [ownWrites, harmed, arm_idempotent, detect_self]

/-! ### What the master reads -/

/-- The levels of a list that runs to its end come before those of the events after it. -/
theorem levelsRead_append_of_next {first rest : List MasterEvent} {s t : State}
    (h : runInstrs (first.map eventInstr) s = .next t) :
    levelsRead (first ++ rest) s = levelsRead first s ++ levelsRead rest t := by
  induction first generalizing s with
  | nil =>
    cases h
    rfl
  | cons e es ih =>
    cases he : exec (eventInstr e) s with
    | next u =>
      rw [List.map_cons, runInstrs_cons_of_next he] at h
      simp only [List.cons_append, levelsRead, he, ih h]
      split <;> rfl
    | fault r => simp [runInstrs, he] at h
    | refused r => simp [runInstrs, he] at h

/-- Bringing the drive to a level is no rising edge, so nothing is read (R97). -/
theorem levelsRead_driveTo (sdaM v : Bool) (s : State) : levelsRead (driveTo sdaM v) s = [] := by
  have single : ∀ e : MasterEvent, e ≠ .scl1 → levelsRead [e] s = [] := by
    intro e he
    simp only [levelsRead, if_neg he]
    split <;> rfl
  unfold driveTo
  split
  · rfl
  · split <;> exact single _ (by simp)

/-- The one level read of a clocked bit is the wired-AND of what the master and the slave present (R13, R97). -/
theorem levelsRead_bitEvents {s : State} (h : s.scl = false) (v : Bool) :
    levelsRead (bitEvents s.sdaM v) s = [v && s.sdaS] := by
  have hrise : exec (eventInstr .scl1) (setSdaM v s) = .next _ := exec_mScl1_of_low (by simpa using h)
  rw [bitEvents, levelsRead_append_of_next (runInstrs_driveTo h v), levelsRead_driveTo]
  simp only [levelsRead, hrise, List.nil_append, if_true]
  split <;> simp [sda]

/-! ### The sender -/

/-- The unit sends `v` and `k` bits of it are out: the register has turned by `k`, and the next bit is presented, or
after the eighth still the last one (R117, R146). -/
def sending (v : Byte) (k : Nat) (s : State) : State :=
  { s with suMode := .tx, suLen := .eight, suCnt := BitVec.ofNat 4 k, fOvf := decide (k = 8), sr := v.rotateLeft k,
           sdaS := v.getLsbD (7 - k) }

/-- The bit presented stands on top of the register. -/
theorem topBit_rotateLeft (v : Byte) {k : Nat} (hk : k < 8) : topBit (v.rotateLeft k) = v.getLsbD (7 - k) := by
  interval_cases k <;> simp [topBit]

/-- A sender samples the bit it presents, so its register turns by one (R116). -/
theorem shiftIn_rotateLeft (v : Byte) {k : Nat} (hk : k < 8) :
    shiftIn (v.rotateLeft k) (v.getLsbD (7 - k)) = v.rotateLeft (k + 1) := by
  ext i hi
  rw [getElem_shiftIn]
  interval_cases k <;> interval_cases i <;> simp [BitVec.getElem_rotateLeft]

theorem rotateLeft_zero (v : Byte) : v.rotateLeft 0 = v := by
  ext i hi
  simp [BitVec.getElem_rotateLeft]

theorem rotateLeft_eight (v : Byte) : v.rotateLeft 8 = v := by
  ext i hi
  simp [BitVec.getElem_rotateLeft]

/-- SEND_BYTE under a low SCL presents bit 7 and makes no condition (R146). -/
theorem exec_sendByte_of_scl_low {s : State} (h : s.scl = false) (v : Byte) :
    exec (.sendByte v) s = .next (sending v 0 s) :=
  exec_next_iff.2 ⟨rfl, by simp [ownWrites, detect_eq_of_scl_low h, sending, sendByte, topBit, rotateLeft_zero]⟩

theorem countRefused_sending {k : Nat} (hk : k < 8) (v : Byte) (s : State) : countRefused (sending v k s) = false :=
  countRefused_of_suCnt_lt (by simp only [sending]; bv_omega)

/-- With a bit left to send, a bit clocked with the master's drive released sends it. -/
theorem clockBit_sending {k : Nat} (hk : k < 8) (v : Byte) {s : State} (hscl : s.scl = false) :
    clockBit true (sending v k s) = sending v (k + 1) (setSdaM true s) := by
  have hroom : k ≠ 8 := by omega
  have hcnt : BitVec.ofNat 4 k + 1#4 = BitVec.ofNat 4 (k + 1) := by bv_omega
  by_cases hlast : k = 7
  · subst hlast
    have hturn : shiftIn (v.rotateLeft 7) v[0] = v.rotateLeft 8 := by simpa using shiftIn_rotateLeft v hk
    simp [clockBit, edgeRise, edgeFall, shifting, sending, suLenVal, sda, setScl, setSdaM, *]
  · have hturn := shiftIn_rotateLeft v hk
    have hnext := topBit_rotateLeft v (k := k + 1) (by omega)
    have hmore : ¬ BitVec.ofNat 4 (k + 1) = 8#4 := by bv_omega
    simp [clockBit, edgeRise, edgeFall, shifting, sending, suLenVal, sda, setScl, setSdaM, *]

theorem runInstrs_bitEvents_of_sending {k : Nat} (hk : k < 8) (v : Byte) {s : State} (hscl : s.scl = false) :
    runInstrs ((bitEvents s.sdaM true).map eventInstr) (sending v k s) =
      .next (sending v (k + 1) (setSdaM true s)) := by
  rw [← clockBit_sending hk v hscl]
  exact runInstrs_bitEvents (s := sending v k s) hscl (countRefused_sending hk v s) true

/-- The bits still to send go out one after the other, and from the first on the master's drive is released. -/
theorem runInstrs_bitsEvents_of_sending {k n : Nat} (hn : k + n < 8) (v : Byte) {s : State} (hscl : s.scl = false) :
    runInstrs ((bitsEvents s.sdaM (List.replicate (n + 1) true)).map eventInstr) (sending v k s) =
      .next (sending v (k + n + 1) (setSdaM true s)) := by
  induction n generalizing k s with
  | zero =>
    rw [List.replicate_one, bitsEvents, bitsEvents, List.append_nil]
    exact runInstrs_bitEvents_of_sending hn v hscl
  | succ n ih =>
    have hbit := runInstrs_bitEvents_of_sending (k := k) (by omega) v hscl
    have hrest := ih (k := k + 1) (s := setSdaM true s) (by omega) hscl
    rw [Nat.add_right_comm k 1 n] at hrest
    rw [List.replicate_succ, bitsEvents, List.map_append, runInstrs_append_of_next hbit]
    exact hrest

/-- The master reads the bits still to send in their order, each at its own rising edge (R97, R146). -/
theorem levelsRead_bitsEvents_of_sending {k n : Nat} (hn : k + n ≤ 8) (v : Byte) {s : State} (hscl : s.scl = false) :
    levelsRead (bitsEvents s.sdaM (List.replicate n true)) (sending v k s) =
      (List.range' k n).map (fun j => v.getLsbD (7 - j)) := by
  induction n generalizing k s with
  | zero => rfl
  | succ n ih =>
    have hbit := runInstrs_bitEvents_of_sending (k := k) (by omega) v hscl
    have hread : levelsRead (bitEvents s.sdaM true) (sending v k s) = [v.getLsbD (7 - k)] :=
      levelsRead_bitEvents (s := sending v k s) hscl true
    have hrest := ih (k := k + 1) (s := setSdaM true s) (by omega) hscl
    rw [List.replicate_succ, bitsEvents, levelsRead_append_of_next hbit, hread, List.range'_succ, List.map_cons]
    exact congrArg (v.getLsbD (7 - k) :: ·) hrest

/-- After the eighth bit the register has turned once round. -/
theorem sending_eight (v : Byte) (s : State) :
    sending v 8 (setSdaM true s) =
      { sending v 0 s with sr := v, suCnt := 8, fOvf := true, sdaS := v.getLsbD 0, sdaM := true } := by
  simp [sending, setSdaM, rotateLeft_eight]

/-- Settles O52: from the first bit on, the eight bits of the token are sent in their order. -/
theorem senderPresentsTheByteMsbFirst : Obligations.SenderPresentsTheByteMsbFirst := by
  unfold Obligations.SenderPresentsTheByteMsbFirst
  intro s v hscl
  refine ⟨sending v 0 s, exec_sendByte_of_scl_low hscl v, levelsRead_bitsEvents_of_sending (n := 8) le_rfl v hscl, ?_⟩
  rw [← sending_eight]
  exact runInstrs_bitsEvents_of_sending (k := 0) (n := 7) (by omega) v hscl

end Sys2Proof.Machine
end

section
/-! SUPPORT. The sequencer's rows: the controller has a step in every state (O13) and reads a condition flag in one
phase only (O23); the waits (O34), the address match (O36), and the rows that issue a command (O35, O38, O39). -/

namespace Sys2Proof.Machine

/-! ### The controller's step -/

/-- Settles O13: the step is the row of the phase, and no phase's row asks for anything. -/
theorem controllerAlwaysHasAStep : Obligations.ControllerAlwaysHasAStep := by
  unfold Obligations.ControllerAlwaysHasAStep
  exact fun s => ⟨_, controllerStep_eq_detect s, controllerStep_eq s⟩

/-! ### Who reads the start and stop flags -/

/-- The state with f_start at `a` and f_stop at `b`. -/
def setConditions (a b : Bool) (s : State) : State := { s with fStart := a, fStop := b }

/-- A phase's row writes the same whatever f_start and f_stop are, but for the flag it waits for: IDLE reads f_start
(R171) and ADDR_WAIT reads f_stop (R175). -/
theorem ownWrites_setConditions {p : Phase} {a b : Bool} {s : State} (hidle : p = .idle → a = s.fStart)
    (hwait : p = .addrWait → b = s.fStop) :
    ownWrites (phaseInstr p) (setConditions a b s) =
      setConditions (a && !clearsConditions (phaseInstr p)) (b && !clearsConditions (phaseInstr p))
        (ownWrites (phaseInstr p) s) := by
  cases p with
  | idle =>
    obtain rfl := hidle rfl
    simp only [phaseInstr, ownWrites, clearsConditions, Bool.not_false, Bool.and_true, apply_ite (setConditions _ b)]
    rfl
  | addrWait =>
    obtain rfl := hwait rfl
    simp only [phaseInstr, ownWrites, clearsConditions, Bool.not_false, Bool.and_true, waitOvf,
      apply_ite (setConditions a _)]
    rfl
  | addrWaitSclLow | addrCompare | rdWaitAck | rdWaitSend | rdWaitMack | wrWaitAck | wrWaitRecv | wrWaitSack =>
    simp only [phaseInstr, ownWrites, clearsConditions, Bool.not_false, Bool.and_true, waitOvf, waitSclLow,
      compareAddress, apply_ite (setConditions a b)]
    rfl
  | _ =>
    simp only [phaseInstr, clearsConditions, Bool.not_false, Bool.not_true, Bool.and_true, Bool.and_false]
    rfl

@[simp] theorem setConditions_phase (a b : Bool) (s : State) : (setConditions a b s).phase = s.phase := rfl

/-- The detectors look at the lines alone (R114). -/
theorem detect_setConditions (a b a' b' : Bool) (s t : State) :
    detect (setConditions a b s) (setConditions a' b' t) =
      setConditions (a' || startSeen s t) (b' || stopSeen s t) (detect s t) := rfl

/-- Flags that the phase does not wait for go into no other field of the next state, and a flag that stands as it is
comes out as it does. -/
theorem controllerStep_setConditions {s t : State} {a b : Bool} (h : controllerStep s = .next t)
    (hidle : s.phase = .idle → a = s.fStart) (hwait : s.phase = .addrWait → b = s.fStop) :
    ∃ a' b', controllerStep (setConditions a b s) = .next (setConditions a' b' t) ∧
      (a = s.fStart → a' = t.fStart) ∧ (b = s.fStop → b' = t.fStop) := by
  rw [controllerStep_eq_detect] at h
  obtain rfl := Host.Outcome.next.inj h
  obtain ⟨hstart, hstop⟩ := ownWrites_conditions (phaseInstr s.phase) s
  have hstep := controllerStep_eq_detect (setConditions a b s)
  rw [setConditions_phase, ownWrites_setConditions hidle hwait, detect_setConditions] at hstep
  exact ⟨_, _, hstep, fun ha => by rw [detect_fStart, hstart, ha], fun hb => by rw [detect_fStop, hstop, hb]⟩

/-- Settles O23: the unread flag is changed with the other one as it stands. -/
theorem flagsAreReadOnlyInIdleAndAddrWait : Obligations.FlagsAreReadOnlyInIdleAndAddrWait := by
  unfold Obligations.FlagsAreReadOnlyInIdleAndAddrWait
  intro s t v h
  constructor
  · intro hp
    obtain ⟨v', stop', hstep, -, hstop⟩ :=
      controllerStep_setConditions (a := v) (b := s.fStop) h (fun hidle => absurd hidle hp) (fun _ => rfl)
    obtain rfl := hstop rfl
    exact ⟨v', hstep⟩
  · intro hp
    obtain ⟨start', v', hstep, hstart, -⟩ :=
      controllerStep_setConditions (a := s.fStart) (b := v) h (fun _ => rfl) (fun hwait => absurd hwait hp)
    obtain rfl := hstart rfl
    exact ⟨v', hstep⟩

/-! ### The rows that leave SDA alone -/

/-- An instruction that runs in every state and moves neither drive leaves exactly its own writes (R114). -/
theorem exec_of_drives_kept {i : Instr} {s : State} (hrun : canRun i s = true)
    (hmaster : (ownWrites i s).sdaM = s.sdaM) (hslave : (ownWrites i s).sdaS = s.sdaS) :
    exec i s = .next (ownWrites i s) :=
  exec_next_iff.2 ⟨hrun, (detect_eq_of_drives_eq hmaster hslave).symm⟩

/-- Settles O34: a wait moves neither drive, whether it goes on or not. -/
theorem waitsStayOrGoOn : Obligations.WaitsStayOrGoOn := by
  unfold Obligations.WaitsStayOrGoOn
  intro s
  refine ⟨?idle, ?_, ?addrWait, ?_, ?_, ?_, ?_, ?wrWaitRecv, ?_⟩
  case idle | addrWait | wrWaitRecv =>
    refine exec_of_drives_kept rfl ?_ ?_ <;> simp only [ownWrites] <;> split <;> simp
  all_goals exact exec_of_drives_kept rfl (by simp [ownWrites]) (by simp [ownWrites])

/-! ### The address match -/

/-- Of the 256 bytes the detector matches the two that carry the device address (R83, R177). -/
theorem compareAddress_of_byte (b : Byte) (s : State) :
    compareAddress (addressField b) (rwField b) s =
      if b = 0x84 then { s with dir := .write, phase := .addrAck }
      else if b = 0x85 then { s with dir := .read, phase := .addrAck }
      else { s with phase := .addrReject } := by
  by_cases hmatch : addressField b = Config.deviceAddress
  · rcases eq_of_addressField_eq hmatch with rfl | rfl <;> rfl
  · have hwrite : b ≠ 0x84 := by
      rintro rfl
      exact hmatch rfl
    have hread : b ≠ 0x85 := by
      rintro rfl
      exact hmatch rfl
    rw [compareAddress, if_neg hmatch, if_neg hwrite, if_neg hread]
    rfl

/-- Settles O36: the comparison moves no line, and what it decides it decides by the byte. -/
theorem addressMatchDetectorDecides : Obligations.AddressMatchDetectorDecides := by
  unfold Obligations.AddressMatchDetectorDecides
  intro s
  refine ⟨?_, exec_of_drives_kept rfl rfl rfl, exec_of_drives_kept rfl rfl rfl, fun a d hwf => ?_⟩
  · rw [← compareAddress_of_byte]
    exact exec_of_drives_kept rfl (by simp [ownWrites]) (by simp [ownWrites])
  · have hreject : ownWrites (.addrOther a d) s = gotoPhase .addrReject s := if_neg (wellFormed_addrOther_iff.1 hwf)
    rw [exec_of_drives_kept rfl (by simp [ownWrites]) (by simp [ownWrites]), hreject]
    rfl

/-! ### The rows that issue a command -/

/-- A row that releases SDA can make a stop and no start (R114). -/
theorem exec_of_sdaS_released {i : Instr} {s : State} (hrun : canRun i s = true)
    (hscl : (ownWrites i s).scl = s.scl) (hsda : (ownWrites i s).sdaM = s.sdaM) (hhigh : (ownWrites i s).sdaS = true) :
    exec i s = .next { ownWrites i s with
      fStop := (ownWrites i s).fStop || (s.scl && s.sdaM && !s.sdaS) } := by
  rw [exec_of_sdaS_moved hrun hscl hsda]
  simp [hhigh]

/-- A row that pulls SDA low can make a start and no stop (R114). -/
theorem exec_of_sdaS_pulled {i : Instr} {s : State} (hrun : canRun i s = true)
    (hscl : (ownWrites i s).scl = s.scl) (hsda : (ownWrites i s).sdaM = s.sdaM) (hlow : (ownWrites i s).sdaS = false) :
    exec i s = .next { ownWrites i s with
      fStart := (ownWrites i s).fStart || (s.scl && s.sdaM && s.sdaS) } := by
  rw [exec_of_sdaS_moved hrun hscl hsda]
  simp [hlow]

/-- Settles O35: the first four rows release SDA, the acknowledge pulls it low. -/
theorem addressPhaseConfiguresTheUnit : Obligations.AddressPhaseConfiguresTheUnit := by
  unfold Obligations.AddressPhaseConfiguresTheUnit
  intro s released
  refine ⟨?_, ?_, ?_, ?_, ?addrAck⟩
  case addrAck => exact exec_of_sdaS_pulled rfl rfl rfl rfl
  all_goals exact exec_of_sdaS_released rfl rfl rfl rfl

/-- Settles O38: the sent byte's top bit moves SDA either way, the other two rows release it. -/
theorem readExchangeSendsAndRearms : Obligations.ReadExchangeSendsAndRearms := by
  unfold Obligations.ReadExchangeSendsAndRearms
  intro s released
  exact ⟨exec_of_sdaS_moved rfl rfl rfl, exec_of_sdaS_released rfl rfl rfl rfl, exec_of_sdaS_released rfl rfl rfl rfl⟩

/-- Settles O39: the acknowledge pulls SDA low, the rows about it release it. -/
theorem writeExchangeReceivesAndRearms : Obligations.WriteExchangeReceivesAndRearms := by
  unfold Obligations.WriteExchangeReceivesAndRearms
  intro s released
  exact ⟨exec_of_sdaS_released rfl rfl rfl rfl, exec_of_sdaS_pulled rfl rfl rfl rfl,
    exec_of_sdaS_released rfl rfl rfl rfl⟩

end Sys2Proof.Machine
end

section
/-! SUPPORT. The port's commands: what set_mode (O26), WRITE_ALL (O27) and READ_ALL (O28) write and return, set_mode
in its own mode (O29), a read after a write (O30), and the bits the block does not own (O31). -/

namespace Sys2Proof.Machine

/-! ### The four rows: none moves a line, so each leaves exactly its own writes -/

theorem exec_setInput (s : State) : exec .setInput s = .next (setInput s) :=
  exec_of_drives_kept rfl rfl rfl

theorem exec_setOutput (s : State) : exec .setOutput s = .next (setOutput s) :=
  exec_of_drives_kept rfl rfl rfl

theorem exec_writeAll (b : Byte) (s : State) : exec (.writeAll b) s = .next (writeAll b s) :=
  exec_of_drives_kept rfl rfl rfl

theorem exec_readAll (s : State) : exec .readAll s = .next (sampleToResult s) :=
  exec_of_drives_kept rfl rfl rfl

/-- Settles O26: both words are encodings, and each row writes what its operation writes. -/
theorem setModeSwitchesDirectionLatchAndIndicator : Obligations.SetModeSwitchesDirectionLatchAndIndicator := by
  unfold Obligations.SetModeSwitchesDirectionLatchAndIndicator
  refine ⟨?_, ?_, fun s => ⟨exec_setInput s, exec_setOutput s⟩⟩
  all_goals
    rw [decode_ok_iff]
    decide

/-- A command word is its code over its operand, written as a disjunction (R92). -/
theorem commandWord_eq_or (code : BitVec 4) (operand : Byte) :
    commandWord code operand = (code.setWidth 16 <<< 8) ||| operand.setWidth 16 := by
  rw [commandWord, BitVec.setWidth_append_eq_shiftLeft_setWidth_or]

/-- A byte under the mask already is written as it is (R204). -/
theorem writeUnder_masked (mask old b : Byte) :
    writeUnder mask old (b &&& mask) = (old &&& ~~~mask) ||| (b &&& mask) := by
  rw [writeUnder, BitVec.and_assoc, BitVec.and_self]

/-- The group images of a byte stand under the masks, so WRITE_ALL takes them over (R86, R204). -/
theorem writeAll_eq (b : Byte) (s : State) :
    writeAll b s = { s with g1Out := (s.g1Out &&& ~~~Config.maskG1) ||| toG1 b
                            g2Out := (s.g2Out &&& ~~~Config.maskG2) ||| toG2 b } := by
  rw [writeAll, toG1, toG2, writeUnder_masked, writeUnder_masked]

/-- Settles O27: the word is the encoding, and the write under a mask takes the byte's images. -/
theorem writeAllWritesBothLatches : Obligations.WriteAllWritesBothLatches := by
  unfold Obligations.WriteAllWritesBothLatches
  intro s b
  constructor
  · rw [decode_ok_iff]
    exact ⟨rfl, commandWord_eq_or 0xA b, rfl⟩
  · rw [exec_writeAll, writeAll_eq]
    rfl

/-- Settles O28: the byte is `readAllValue`, the masked levels of both groups in their places. -/
theorem readAllReturnsTheMappedLevels : Obligations.ReadAllReturnsTheMappedLevels := by
  unfold Obligations.ReadAllReturnsTheMappedLevels
  exact exec_readAll

/-! ### set_mode in its own mode -/

theorem and_not_eq_self {x m : Byte} (h : x &&& m = 0) : x &&& ~~~m = x := by
  calc x &&& ~~~m = (x &&& m) ||| (x &&& ~~~m) := by simp [h]
    _ = x := by rw [← BitVec.and_or_distrib_left, BitVec.or_not_self, BitVec.and_allOnes]

theorem or_eq_self {x m : Byte} (h : x &&& m = m) : x ||| m = x := by
  rw [← h]
  ext i hi
  cases hx : x[i] <;> simp [hx]

theorem setInput_eq_self {s : State} (h : PortInv s) (hm : s.portMode = .input) : setInput s = s := by
  obtain ⟨h1d, h2d, h1o, h2o, hind⟩ := h.1 hm
  rw [setInput, and_not_eq_self h1d, and_not_eq_self h2d, and_not_eq_self h1o, and_not_eq_self h2o, ← hind, ← hm]

theorem setOutput_eq_self {s : State} (h : PortInv s) (hm : s.portMode = .output) : setOutput s = s := by
  obtain ⟨h1d, h2d, hind⟩ := h.2 hm
  rw [setOutput, or_eq_self h1d, or_eq_self h2d, ← hind, ← hm]

/-- Settles O29: the invariant says that the mode's own directions, latches and indicator stand already. -/
theorem repeatingSetModeChangesNothing : Obligations.RepeatingSetModeChangesNothing := by
  unfold Obligations.RepeatingSetModeChangesNothing
  intro s hs
  constructor
  · intro hm
    rw [exec_setInput, setInput_eq_self hs hm]
  · intro hm
    rw [exec_setOutput, setOutput_eq_self hs hm]

/-! ### A read after a write -/

/-- Where every mapped pin is driven a read returns the latches, whatever the samples are (R201, R205). -/
theorem readAllFrom_of_driven {s : State} (h1 : s.g1Dir &&& Config.maskG1 = Config.maskG1)
    (h2 : s.g2Dir &&& Config.maskG2 = Config.maskG2) (p1 p2 : Byte) :
    readAllFrom p1 p2 s = fromG s.g1Out s.g2Out := by
  rw [readAllFrom, fromG, groupLevel_of_driven h1, groupLevel_of_driven h2, fromG]

/-- The latches that WRITE_ALL leaves map back to the byte (R86, R204). -/
theorem fromG_writeAll (b : Byte) (s : State) : fromG (writeAll b s).g1Out (writeAll b s).g2Out = b := by
  rw [writeAll_g1Out, writeAll_g2Out, fromG, writeUnder_writes, writeUnder_writes]
  exact fromG_toG1_toG2 b

/-- Settles O30: in Output mode every mapped pin is driven, so the read sees the latches the write left. -/
theorem readAllAfterWriteAllReturnsTheByte : Obligations.ReadAllAfterWriteAllReturnsTheByte := by
  unfold Obligations.ReadAllAfterWriteAllReturnsTheByte
  intro s b hs hm
  obtain ⟨h1, h2, -⟩ := hs.2 hm
  refine ⟨writeAll b s, sampleToResult (writeAll b s), exec_writeAll b s, exec_readAll _, ?_⟩
  rw [sampleToResult_result, readAllValue, readAllFrom_of_driven (s := writeAll b s) h1 h2, fromG_writeAll]

/-! ### The bits outside the masks -/

theorem and_not_and_not_self (x m : Byte) : x &&& ~~~m &&& ~~~m = x &&& ~~~m := by
  rw [BitVec.and_assoc, BitVec.and_self]

theorem or_and_not_self (x m : Byte) : (x ||| m) &&& ~~~m = x &&& ~~~m := by
  simp [BitVec.and_or_distrib_right]

/-- The bits outside the masks are bits of the port registers. -/
theorem sameUnmapped_of_samePort {s t u : State} (htu : SamePort t u) (hst : SameUnmapped s t) : SameUnmapped s u := by
  obtain ⟨-, h1d, h1o, h2d, h2o, -⟩ := htu
  simpa only [SameUnmapped, h1d, h1o, h2d, h2o] using hst

theorem sameUnmapped_setInput (s : State) : SameUnmapped s (setInput s) :=
  ⟨and_not_and_not_self _ _, and_not_and_not_self _ _, and_not_and_not_self _ _, and_not_and_not_self _ _⟩

theorem sameUnmapped_setOutput (s : State) : SameUnmapped s (setOutput s) :=
  ⟨or_and_not_self _ _, rfl, or_and_not_self _ _, rfl⟩

theorem sameUnmapped_writeAll (b : Byte) (s : State) : SameUnmapped s (writeAll b s) :=
  ⟨rfl, writeUnder_keeps _ _ _, rfl, writeUnder_keeps _ _ _⟩

/-- Each of the port's three writers works under the masks (R208). -/
theorem sameUnmapped_portAfter (i : Instr) (s : State) : SameUnmapped s (portAfter i s) := by
  cases i with
  | setInput | rdSetInput => exact sameUnmapped_setInput s
  | setOutput | wrSetOutput => exact sameUnmapped_setOutput s
  | writeAll b => exact sameUnmapped_writeAll b s
  | wrWrite => exact sameUnmapped_writeAll s.xfer s
  | _ => exact ⟨rfl, rfl, rfl, rfl⟩

/-- Settles O31: an instruction does to the port what one of its three writers does, or nothing. -/
theorem unmappedPortBitsAreNeverWritten : Obligations.UnmappedPortBitsAreNeverWritten := by
  unfold Obligations.UnmappedPortBitsAreNeverWritten
  exact fun i s _ h => sameUnmapped_of_samePort (exec_port h) (sameUnmapped_portAfter i s)

end Sys2Proof.Machine
end

section
/-! SUPPORT. The Poller's rows: where DISPATCH goes (O42), the phases that issue a port command (O43), the sample of a
Read (O44), and where the port mode is switched (O45). -/

namespace Sys2Proof.Machine

/-! ### The rows: none moves a line, so each leaves exactly its own writes -/

theorem exec_dispatch (s : State) : exec .dispatch s = .next (gotoPhase (dispatchTarget s.dir s.portMode) s) :=
  exec_of_drives_kept rfl rfl rfl

/-- DISPATCH tests the direction first, then whether the mode serves it (R221). -/
theorem dispatchTarget_eq_ite (d : Direction) (m : PortMode) :
    dispatchTarget d m =
      if d = .read then (if m = .input then .rdSample else .rdSetInput)
      else (if m = .output then .wrWaitAck else .wrSetOutput) := by
  cases d <;> cases m <;> rfl

/-- Settles O42: the word is DISPATCH's encoding, and the row writes the phase it branches to. -/
theorem dispatchSwitchesLazily : Obligations.DispatchSwitchesLazily := by
  unfold Obligations.DispatchSwitchesLazily
  constructor
  · rw [decode_ok_iff]
    decide
  · intro s
    rw [exec_dispatch, dispatchTarget_eq_ite]
    rfl

/-- Settles O43: each row is its command's writes and the next phase. -/
theorem portPhasesIssueTheirCommand : Obligations.PortPhasesIssueTheirCommand := by
  unfold Obligations.PortPhasesIssueTheirCommand
  intro s
  have hwrite : exec .wrWrite s = .next (gotoPhase .idle (writeAll s.xfer s)) := exec_of_drives_kept rfl rfl rfl
  refine ⟨exec_of_drives_kept rfl rfl rfl, exec_of_drives_kept rfl rfl rfl, ?_⟩
  rw [hwrite, writeAll_eq]
  rfl

/-- Settles O44: the row keeps `readAllValue`, the masked levels of both groups in their places. -/
theorem readSampleKeepsTheSampledByte : Obligations.ReadSampleKeepsTheSampledByte := by
  unfold Obligations.ReadSampleKeepsTheSampledByte
  exact fun _ => exec_of_drives_kept rfl rfl rfl

/-! ### Where the mode is switched -/

/-- The direction asks for the other mode: a Read in Output mode, a Write in Input mode (R226). -/
abbrev ModeDiffers (d : Direction) (m : PortMode) : Prop := d = .read ↔ m = .output

/-- DISPATCH goes to a switching phase exactly where the mode differs (R221). -/
theorem dispatchTarget_switches_iff (d : Direction) (m : PortMode) :
    (dispatchTarget d m = .rdSetInput ∨ dispatchTarget d m = .wrSetOutput) ↔ ModeDiffers d m := by
  cases d <;> cases m <;> simp [dispatchTarget, ModeDiffers]

/-- A switching phase stands only where the mode differs (R221, R226). -/
theorem modeDiffers_of_phaseAgrees {p : Phase} {d : Direction} {m : PortMode} (h : phaseAgrees p d m = true)
    (hp : p = .rdSetInput ∨ p = .wrSetOutput) : ModeDiffers d m := by
  rcases hp with rfl | rfl <;> simp_all [phaseAgrees, ModeDiffers]

/-- Of the phases that agree with the mode the two switching ones change it, the mode being the other one there (R222,
R224); no other phase issues a set_mode. -/
theorem portAfter_switches_iff {p : Phase} {s : State} (h : phaseAgrees p s.dir s.portMode = true) :
    (portAfter (phaseInstr p) s).portMode ≠ s.portMode ↔ p = .rdSetInput ∨ p = .wrSetOutput := by
  cases p with
  | rdSetInput | wrSetOutput => simp_all [phaseAgrees, phaseInstr, portAfter]
  | _ => simp [phaseInstr, portAfter]

/-- Settles O45: the block invariant has a switching phase stand only where the mode differs, so its set_mode changes
the mode. -/
theorem modeSwitchesExactlyWhenTheDirectionDiffers : Obligations.ModeSwitchesExactlyWhenTheDirectionDiffers := by
  unfold Obligations.ModeSwitchesExactlyWhenTheDirectionDiffers
  intro s t hs h
  obtain ⟨-, hagree, -⟩ := hs
  rw [controllerStep_eq] at h
  have hswitch : t.portMode ≠ s.portMode ↔ s.phase = .rdSetInput ∨ s.phase = .wrSetOutput := by
    rw [(exec_port h).1]
    exact portAfter_switches_iff hagree
  refine ⟨hswitch, fun hne => modeDiffers_of_phaseAgrees hagree (hswitch.1 hne), fun hp => ?_⟩
  rw [hp, phaseInstr, exec_dispatch] at h
  obtain rfl := Host.Outcome.next.inj h
  exact dispatchTarget_switches_iff s.dir s.portMode

end Sys2Proof.Machine
end

section
/-! SUPPORT. How a transaction ends early or unheard: the mismatched address (O53), the stop in the address byte (O54),
and the master's acknowledge of a Read (O55). -/

namespace Sys2Proof.Machine

/-! ### A run, step by step -/

theorem controllerRun_succ_of_step {k : Nat} {s t : State} (h : controllerStep s = .next t) :
    controllerRun (k + 1) s = controllerRun k t := by
  rw [controllerRun, h]

theorem controllerRun_one_of_step {s t : State} (h : controllerStep s = .next t) : controllerRun 1 s = .next t :=
  controllerRun_succ_of_step h

theorem controllerRun_two_of_steps {s t u : State} (hfirst : controllerStep s = .next t)
    (hsecond : controllerStep t = .next u) : controllerRun 2 s = .next u :=
  (controllerRun_succ_of_step hfirst).trans (controllerRun_one_of_step hsecond)

/-! ### The early return -/

/-- The phases whose row is the early return, ARM and back to IDLE (R251). -/
abbrev ReturnsEarly (p : Phase) : Prop := p = .addrReject ∨ p = .addrAbort

/-- The early return's release of SDA is unseen where SCL is low or SDA is released already (R114, R176, R178). -/
theorem controllerStep_of_returnsEarly {s : State} (hp : ReturnsEarly s.phase) (h : s.scl = false ∨ s.sdaS = true) :
    controllerStep s = .next (rearmToIdle s) := by
  have hrow : ownWrites (phaseInstr s.phase) s = rearmToIdle s := by
    rcases hp with hp | hp <;> rw [hp] <;> rfl
  have hquiet : detect s (rearmToIdle s) = rearmToIdle s :=
    congrArg (gotoPhase .idle) (detect_arm_of_unseen (h.imp_right .inr))
  rw [controllerStep_eq_detect, hrow, hquiet]

/-- A step that does no more than go on to the early return is followed by it. -/
theorem controllerRun_two_of_returnsEarly {p : Phase} {s : State} (hgo : controllerStep s = .next (gotoPhase p s))
    (hp : ReturnsEarly p) (h : s.scl = false ∨ s.sdaS = true) : controllerRun 2 s = .next (rearmToIdle s) :=
  controllerRun_two_of_steps hgo (controllerStep_of_returnsEarly hp h)

/-- Settles O53: the comparison only goes on to ADDR_REJECT, which returns early under the low SCL. -/
theorem mismatchedAddressLeavesNoTrace : Obligations.MismatchedAddressLeavesNoTrace := by
  unfold Obligations.MismatchedAddressLeavesNoTrace
  intro s hp hwrite hread hscl
  have hgo : controllerStep s = .next (gotoPhase .addrReject s) := by
    rw [controllerStep_eq, hp, phaseInstr, (addressMatchDetectorDecides s).1, if_neg hwrite, if_neg hread]
    rfl
  exact controllerRun_two_of_returnsEarly hgo (.inl rfl) (.inl hscl)

/-- Settles O54: the wait tests the stop before the byte and only goes on to ADDR_ABORT, which returns early with SDA
released already. -/
theorem stopInTheAddressByteAbandonsTheTransaction : Obligations.StopInTheAddressByteAbandonsTheTransaction := by
  unfold Obligations.StopInTheAddressByteAbandonsTheTransaction
  intro s hp hstop hsda
  have hwrites : ownWrites .addrWait s = gotoPhase .addrAbort s := if_pos hstop
  have hgo : controllerStep s = .next (gotoPhase .addrAbort s) := by
    rw [controllerStep_eq, hp, phaseInstr, exec_of_drives_kept rfl (by simp [hwrites]) (by simp [hwrites]), hwrites]
  rw [controllerRun_two_of_returnsEarly hgo (.inr rfl) (.inr hsda)]
  simp [rearmToIdle, gotoPhase, arm, hsda]

/-! ### The master's acknowledge -/

/-- The state with the shift register at `v`. -/
def setSr (v : Byte) (s : State) : State := { s with sr := v }

@[simp] theorem setSr_phase (v : Byte) (s : State) : (setSr v s).phase = s.phase := rfl

/-- The phases from the master's acknowledge to the end of a Read (R184, R185). -/
abbrev EndsRead (p : Phase) : Prop := p = .rdWaitMack ∨ p = .rdRearm

/-- The end of a Read neither reads nor writes the shift register: its rows write the same whatever it holds. -/
theorem ownWrites_setSr_of_endsRead {p : Phase} (hp : EndsRead p) (v : Byte) (s : State) :
    ownWrites (phaseInstr p) (setSr v s) = setSr v (ownWrites (phaseInstr p) s) := by
  rcases hp with rfl | rfl
  · simp only [phaseInstr, ownWrites, waitOvf, apply_ite (setSr v)]
    rfl
  · rfl

theorem controllerStep_setSr_of_endsRead {s t : State} (hp : EndsRead s.phase) (h : controllerStep s = .next t)
    (v : Byte) : controllerStep (setSr v s) = .next (setSr v t) := by
  rw [controllerStep_eq_detect] at h
  obtain rfl := Host.Outcome.next.inj h
  rw [controllerStep_eq_detect, setSr_phase, ownWrites_setSr_of_endsRead hp]
  rfl

/-- The wait for the acknowledge stays or goes on to RD_REARM (R184). -/
theorem endsRead_of_controllerStep {s t : State} (hp : s.phase = .rdWaitMack) (h : controllerStep s = .next t) :
    EndsRead t.phase := by
  rw [controllerStep_eq] at h
  rcases exec_phaseInstr_stays_or_goes h with rfl | hgoes
  · exact .inl hp
  · rw [hp] at hgoes
    exact .inr (List.mem_singleton.1 hgoes)

/-- Settles O55: the first step leaves a phase that ends the Read, so neither step looks at the shift register. -/
theorem masterAcknowledgeIsNotActedUpon : Obligations.MasterAcknowledgeIsNotActedUpon := by
  unfold Obligations.MasterAcknowledgeIsNotActedUpon
  intro s t v k hp hk hrun
  change controllerRun k (setSr v s) = .next (setSr v t)
  obtain ⟨u, hfirst, -⟩ := controllerAlwaysHasAStep s
  obtain ⟨w, hsecond, -⟩ := controllerAlwaysHasAStep u
  have hfirst' := controllerStep_setSr_of_endsRead (.inl hp) hfirst v
  have hsecond' := controllerStep_setSr_of_endsRead (endsRead_of_controllerStep hp hfirst) hsecond v
  match k with
  | 0 =>
    obtain rfl := Host.Outcome.next.inj hrun
    rfl
  | 1 =>
    rw [controllerRun_one_of_step hfirst] at hrun
    obtain rfl := Host.Outcome.next.inj hrun
    exact controllerRun_one_of_step hfirst'
  | 2 =>
    rw [controllerRun_two_of_steps hfirst hsecond] at hrun
    obtain rfl := Host.Outcome.next.inj hrun
    exact controllerRun_two_of_steps hfirst' hsecond'
  | k + 3 => omega

end Sys2Proof.Machine
end

section
/-! SUPPORT. How long the controller goes on by itself: the phases ahead of it until it is quiescent (O14). -/

namespace Sys2Proof.Machine

/-! ### The phases ahead -/

/-- The phases from a stop the address byte's wait sees (R175, R176). -/
def stopAhead : Bool → List Phase
  | true => [.addrAbort, .idle]
  | false => []

/-- The phases from the wait for SCL low, under this SCL, to the address byte's wait (R173, R174). -/
def beginAhead : Bool → List Phase
  | true => []
  | false => [.addrBegin, .addrWait]

/-- The phases from IDLE, with this f_start and this SCL (R171, R172). -/
def startAhead : Bool → Bool → List Phase
  | true, scl => .addrSdaIn :: .addrWaitSclLow :: beginAhead scl
  | false, _ => []

/-- The phases from DISPATCH to the wait for the address acknowledge (R221 to R224). -/
def portAhead : Direction → PortMode → List Phase
  | .read, .output => [.rdSetInput, .rdSample, .rdWaitAck]
  | .read, .input => [.rdSample, .rdWaitAck]
  | .write, .input => [.wrSetOutput, .wrWaitAck]
  | .write, .output => [.wrWaitAck]

/-- The phases from a received address byte's comparison (R177, R179). -/
def compareAhead (b : Byte) (m : PortMode) : List Phase :=
  if addressField b = Config.deviceAddress then .addrAck :: .dispatch :: portAhead (directionOfBit (rwField b)) m
  else [.addrReject, .idle]

/-- The phases from the wait for the address acknowledge, with this f_ovf, to the data byte's wait (R180, R186). -/
def exchangeAhead : Direction → Bool → List Phase
  | .read, true => [.rdSend, .rdWaitSend]
  | .write, true => [.wrRecv, .wrWaitRecv]
  | _, false => []

/-- The phases the controller goes on through until it is quiescent, if no master event falls between its steps
(R290). -/
def phasesAhead (s : State) : List Phase :=
  match s.phase with
  | .idle => startAhead s.fStart s.scl
  | .addrSdaIn => .addrWaitSclLow :: beginAhead s.scl
  | .addrWaitSclLow => beginAhead s.scl
  | .addrBegin => .addrWait :: stopAhead (stopSeen s (beginAddr s))
  | .addrWait => if s.fOvf && !s.fStop then .addrCompare :: compareAhead s.sr s.portMode else stopAhead s.fStop
  | .addrAbort | .addrReject | .rdRearm => [.idle]
  | .addrCompare => compareAhead s.sr s.portMode
  | .addrAck => .dispatch :: portAhead s.dir s.portMode
  | .dispatch => portAhead s.dir s.portMode ++ exchangeAhead s.dir s.fOvf
  | .rdSetInput => .rdSample :: .rdWaitAck :: exchangeAhead .read s.fOvf
  | .rdSample => .rdWaitAck :: exchangeAhead .read s.fOvf
  | .rdWaitAck => exchangeAhead .read s.fOvf
  | .rdSend => [.rdWaitSend]
  | .rdWaitSend => if s.fOvf then [.rdMack, .rdWaitMack] else []
  | .rdMack => [.rdWaitMack]
  | .rdWaitMack => if s.fOvf then [.rdRearm, .idle] else []
  | .wrSetOutput => .wrWaitAck :: exchangeAhead .write s.fOvf
  | .wrWaitAck => exchangeAhead .write s.fOvf
  | .wrRecv => [.wrWaitRecv]
  | .wrWaitRecv => if s.fOvf then [.wrSack, .wrWaitSack] else []
  | .wrSack => [.wrWaitSack]
  | .wrWaitSack => if s.fOvf then [.wrRearm, .wrWrite, .idle] else []
  | .wrRearm => [.wrWrite, .idle]
  | .wrWrite => .idle :: startAhead s.fStart s.scl

/-! ### How many there are -/

theorem length_startAhead_le (start scl : Bool) : (startAhead start scl).length ≤ 4 := by
  cases start <;> cases scl <;> decide

theorem length_portAhead_le (d : Direction) (m : PortMode) : (portAhead d m).length ≤ 3 := by
  cases d <;> cases m <;> decide

theorem length_compareAhead_le (b : Byte) (m : PortMode) : (compareAhead b m).length ≤ 5 := by
  unfold compareAhead
  split
  · exact Nat.add_le_add_right (length_portAhead_le _ m) 2
  · decide

theorem length_exchangeAhead_le (d : Direction) (ovf : Bool) : (exchangeAhead d ovf).length ≤ 2 := by
  cases d <;> cases ovf <;> decide

/-- The longest way is ADDR_WAIT's, with the byte complete (R290). -/
theorem length_phasesAhead_le (s : State) : (phasesAhead s).length ≤ 6 := by
  have hstart := length_startAhead_le s.fStart s.scl
  have hport := length_portAhead_le s.dir s.portMode
  have hcompare := length_compareAhead_le s.sr s.portMode
  have hexchange := fun d => length_exchangeAhead_le d s.fOvf
  cases hp : s.phase with
  | addrSdaIn | addrWaitSclLow => cases hscl : s.scl <;> simp [phasesAhead, hp, beginAhead, hscl]
  | addrBegin => cases hstop : stopSeen s (beginAddr s) <;> simp [phasesAhead, hp, stopAhead, hstop]
  | addrWait =>
    have hstopAhead : (stopAhead s.fStop).length ≤ 2 := by cases s.fStop <;> decide
    simp only [phasesAhead, hp]
    split
    · exact Nat.add_le_add_right hcompare 1
    · omega
  | rdWaitSend | rdWaitMack | wrWaitRecv | wrWaitSack => cases hovf : s.fOvf <;> simp [phasesAhead, hp, hovf]
  | dispatch | rdSetInput | rdSample | rdWaitAck | wrSetOutput | wrWaitAck =>
    have hread := hexchange .read
    have hwrite := hexchange .write
    have hdir := hexchange s.dir
    simp only [phasesAhead, hp, List.length_cons, List.length_append]
    omega
  | _ =>
    simp only [phasesAhead, hp, List.length_cons, List.length_nil]
    omega

theorem quiescent_iff_phasesAhead_eq_nil (s : State) : quiescent s = true ↔ phasesAhead s = [] := by
  cases hp : s.phase with
  | idle => cases hstart : s.fStart <;> simp [quiescent, phasesAhead, hp, hstart, startAhead]
  | addrWaitSclLow => cases hscl : s.scl <;> simp [quiescent, phasesAhead, hp, hscl, beginAhead]
  | addrWait =>
    cases hstop : s.fStop <;> cases hovf : s.fOvf <;> simp [quiescent, phasesAhead, hp, hstop, hovf, stopAhead]
  | addrCompare => simp only [quiescent, phasesAhead, hp, compareAhead]; split <;> simp
  | dispatch => cases hd : s.dir <;> cases hm : s.portMode <;> simp [quiescent, phasesAhead, hp, hd, hm, portAhead]
  | rdWaitAck | wrWaitAck => cases hovf : s.fOvf <;> simp [quiescent, phasesAhead, hp, hovf, exchangeAhead]
  | _ => simp [quiescent, phasesAhead, hp]

/-- A step that ends with the slave's drive released makes no start condition (R114). -/
theorem startSeen_of_released {s t : State} (hm : t.sdaM = s.sdaM) (hs : t.sdaS = true) : startSeen s t = false := by
  simp only [startSeen, sda, hm, hs]
  cases s.sdaM <;> simp

/-- A controller that is not quiescent goes on to the first of the phases ahead, and the rest stay ahead of it. -/
theorem phasesAhead_of_not_quiescent {s t : State} (hq : quiescent s = false) (h : controllerStep s = .next t) :
    phasesAhead s = t.phase :: phasesAhead t := by
  rw [controllerStep_eq_detect] at h
  obtain rfl := Host.Outcome.next.inj h
  cases hp : s.phase with
  | addrBegin =>
    simp only [phasesAhead, hp, phaseInstr, ownWrites, detect_phase, gotoPhase_phase]
    rfl
  | addrWait => cases hstop : s.fStop <;> simp_all [quiescent, phasesAhead, stopAhead, phaseInstr, ownWrites, waitOvf]
  | addrCompare =>
    by_cases ha : addressField s.sr = Config.deviceAddress <;>
      simp [phasesAhead, hp, compareAhead, phaseInstr, ownWrites, compareAddress, ha]
  | dispatch =>
    cases hd : s.dir <;> cases hm : s.portMode <;>
      simp [phasesAhead, hp, hd, hm, portAhead, phaseInstr, ownWrites, dispatchTarget]
  | addrAbort | addrReject | rdRearm | wrRearm =>
    have hnone : startSeen s (ownWrites (phaseInstr s.phase) s) = false :=
      startSeen_of_released (by simp [hp, phaseInstr, ownWrites]) (by simp [hp, phaseInstr, ownWrites])
    simp_all [phasesAhead, phaseInstr, ownWrites, startAhead]
  | wrWrite =>
    have hnone : startSeen s (ownWrites .wrWrite s) = false := startSeen_self s
    simp only [phasesAhead, hp, phaseInstr, detect_phase, detect_fStart, hnone, Bool.or_false, detect_scl]
    rfl
  | _ =>
    simp_all [quiescent, phasesAhead, phaseInstr, ownWrites, startAhead, beginAhead, waitOvf, waitSclLow,
      exchangeAhead, stopAhead, stopSeen]

/-! ### Along a run -/

/-- As long as phases are ahead, every step takes the controller to the next of them. -/
theorem exists_controllerRun_drop_phasesAhead {k : Nat} {s : State} (hk : k ≤ (phasesAhead s).length) :
    ∃ t, controllerRun k s = .next t ∧ t.phase :: phasesAhead t = (s.phase :: phasesAhead s).drop k := by
  induction k generalizing s with
  | zero => exact ⟨s, rfl, rfl⟩
  | succ k ih =>
    obtain ⟨u, hstep, -⟩ := controllerAlwaysHasAStep s
    have hq : quiescent s = false := by
      rw [Bool.eq_false_iff, Ne, quiescent_iff_phasesAhead_eq_nil]
      exact List.ne_nil_of_length_pos (by omega)
    have hahead := phasesAhead_of_not_quiescent hq hstep
    rw [hahead, List.length_cons] at hk
    obtain ⟨t, hrun, ht⟩ := ih (Nat.le_of_succ_le_succ hk)
    exact ⟨t, (controllerRun_succ_of_step hstep).trans hrun, by rw [ht, hahead, List.drop_succ_cons]⟩

/-- Such a run is quiescent where it has come to the end of the phases ahead, and no sooner. -/
theorem quiescent_controllerRun_iff {k : Nat} {s t : State} (hk : k ≤ (phasesAhead s).length)
    (hrun : controllerRun k s = .next t) : quiescent t = true ↔ k = (phasesAhead s).length := by
  obtain ⟨u, hrun', hahead⟩ := exists_controllerRun_drop_phasesAhead hk
  obtain rfl := Host.Outcome.next.inj (hrun.symm.trans hrun')
  have hlength := congrArg List.length hahead
  rw [List.length_cons, List.length_drop, List.length_cons] at hlength
  rw [quiescent_iff_phasesAhead_eq_nil, ← List.length_eq_zero_iff]
  omega

/-- The byte 0x85 asks for a Read, which the port in Output mode has to be switched for (R221, R290). -/
theorem phasesAhead_of_read_in_output_mode {s : State} (hp : s.phase = .addrWait) (hstop : s.fStop = false)
    (hovf : s.fOvf = true) (hsr : s.sr = 0x85) (hm : s.portMode = .output) :
    phasesAhead s = [.addrCompare, .addrAck, .dispatch, .rdSetInput, .rdSample, .rdWaitAck] := by
  simp only [phasesAhead, hp, hstop, hovf, hsr, hm]
  rfl

/-- Settles O14: the controller is quiescent after as many steps as phases are ahead, which are six at most. -/
theorem controllerIsQuiescentWithinSixSteps : Obligations.ControllerIsQuiescentWithinSixSteps := by
  unfold Obligations.ControllerIsQuiescentWithinSixSteps
  constructor
  · intro s
    obtain ⟨t, hrun, -⟩ := exists_controllerRun_drop_phasesAhead (Nat.le_refl (phasesAhead s).length)
    exact ⟨_, t, length_phasesAhead_le s, hrun, (quiescent_controllerRun_iff (Nat.le_refl _) hrun).2 rfl⟩
  · intro s hp hstop hovf hsr hm
    have hahead := phasesAhead_of_read_in_output_mode hp hstop hovf hsr hm
    have hlength : (phasesAhead s).length = 6 := congrArg List.length hahead
    constructor
    · intro k t hk hrun
      rw [Bool.eq_false_iff, Ne, quiescent_controllerRun_iff (hlength ▸ hk.le) hrun, hlength]
      exact hk.ne
    · obtain ⟨t, hrun, hlast⟩ := exists_controllerRun_drop_phasesAhead (s := s) hlength.ge
      rw [hahead] at hlast
      obtain ⟨hphase, -⟩ := List.cons.inj hlast
      exact ⟨t, hrun, hphase, (quiescent_controllerRun_iff hlength.ge hrun).2 hlength.symm⟩

end Sys2Proof.Machine
end

section
/-! SUPPORT. The port's phases work beside the bus: each commutes with every master event (O56). -/

namespace Sys2Proof.Machine

/-- The phases that run beside the address acknowledge: DISPATCH and what comes before the wait for it (R281). -/
abbrev WorksBesideTheBus (p : Phase) : Prop := p = .dispatch ∨ p = .rdSetInput ∨ p = .rdSample ∨ p = .wrSetOutput

/-- What an event needs and what it writes is of the lines and the shift unit, which these rows neither read nor
write; what they read the event leaves. -/
theorem ownWrites_event_comm {p : Phase} (hp : WorksBesideTheBus p) (e : MasterEvent) (s : State) :
    ownWrites (eventInstr e) (ownWrites (phaseInstr p) s) = ownWrites (phaseInstr p) (ownWrites (eventInstr e) s) := by
  cases e with
  | scl0 =>
    change edgeFall (setScl false (ownWrites (phaseInstr p) s)) =
      ownWrites (phaseInstr p) (edgeFall (setScl false s))
    simp only [edgeFall, apply_ite (ownWrites (phaseInstr p))]
    rcases hp with rfl | rfl | rfl | rfl <;> rfl
  | scl1 =>
    change edgeRise (setScl true (ownWrites (phaseInstr p) s)) = ownWrites (phaseInstr p) (edgeRise (setScl true s))
    simp only [edgeRise, apply_ite (ownWrites (phaseInstr p))]
    rcases hp with rfl | rfl | rfl | rfl <;> rfl
  | sda0 | sda1 => rcases hp with rfl | rfl | rfl | rfl <;> rfl

theorem canRun_event_ownWrites {p : Phase} (hp : WorksBesideTheBus p) (e : MasterEvent) (s : State) :
    canRun (eventInstr e) (ownWrites (phaseInstr p) s) = canRun (eventInstr e) s := by
  rcases hp with rfl | rfl | rfl | rfl <;> cases e <;> rfl

/-- The detectors see the same before and after such a row (R114). -/
theorem detect_ownWrites_comm {p : Phase} (hp : WorksBesideTheBus p) (s t : State) :
    detect (ownWrites (phaseInstr p) s) (ownWrites (phaseInstr p) t) = ownWrites (phaseInstr p) (detect s t) := by
  rcases hp with rfl | rfl | rfl | rfl <;> rfl

theorem controllerStep_of_worksBesideTheBus {s : State} (hp : WorksBesideTheBus s.phase) :
    controllerStep s = .next (ownWrites (phaseInstr s.phase) s) := by
  rw [controllerStep_eq_detect]
  congr 1
  apply detect_eq_of_drives_eq <;> rcases hp with hp | hp | hp | hp <;> rw [hp] <;> rfl

/-- Settles O56: the event leaves the phase, so in both orders the row's and the event's own writes are made. -/
theorem portStepsCommuteWithBusEvents : Obligations.PortStepsCommuteWithBusEvents := by
  unfold Obligations.PortStepsCommuteWithBusEvents
  intro e s t hp h
  obtain ⟨-, ⟨hphase, -⟩, -⟩ := exec_event_frame h
  obtain ⟨hrun, ht⟩ := exec_next_iff.1 h
  refine ⟨ownWrites (phaseInstr s.phase) t, ownWrites (phaseInstr s.phase) s, ?_, ?_, ?_⟩
  · rw [controllerStep_of_worksBesideTheBus (hphase ▸ hp), hphase]
  · exact controllerStep_of_worksBesideTheBus hp
  · refine exec_next_iff.2 ⟨(canRun_event_ownWrites hp e s).trans hrun, ?_⟩
    rw [ownWrites_event_comm hp, detect_ownWrites_comm hp, ← ht]

end Sys2Proof.Machine
end

section
/-! SUPPORT. Reset and what is outside the hardware: the step after reset (O2), the launch (O46), and the requests that
are refused (O11). -/

namespace Sys2Proof.Machine

/-! ### Reset and launch -/

/-- Settles O2: reset leaves no turn and no start condition, so IDLE polls and stays. -/
theorem firstStepAfterResetIsTheIdlePoll : Obligations.FirstStepAfterResetIsTheIdlePoll := by
  unfold Obligations.FirstStepAfterResetIsTheIdlePoll
  intro mw dir xfer sr suLen
  have hpoll : stepWith mw (State.resetWith dir xfer sr suLen) = exec .idle (State.resetWith dir xfer sr suLen) :=
    stepWith_of_agenda_nil (by simp [State.resetWith]) rfl
  have hstays := (quiescentExactlyWhenTheStepStays (State.resetWith dir xfer sr suLen)).1 rfl
  rw [controllerStep_eq] at hstays
  exact ⟨hpoll, hpoll.trans hstays⟩

/-- Settles O46: the invariants speak of fields that reset fixes, and of the agenda, the hardware's own by premise. -/
theorem launchMeetsTheInvariants : Obligations.LaunchMeetsTheInvariants := by
  unfold Obligations.LaunchMeetsTheInvariants
  constructor
  · rintro s ⟨dir, xfer, sr, suLen, turns, rfl, hagenda⟩
    have hport : PortInv (State.resetWith dir xfer sr suLen) := by simp [PortInv, State.resetWith]
    have hshift : ShiftInv (State.resetWith dir xfer sr suLen) :=
      shiftInv_of_countRestarted ⟨rfl, rfl, fun _ => rfl⟩
    exact ⟨⟨hport, rfl, hagenda⟩, hshift, rfl, hagenda⟩
  · exact ⟨.write, 0x00, 0x00, .eight, [], rfl, rfl⟩

/-! ### Requests outside the hardware -/

theorem stepWith_of_fetchTurn_stop {mw : Bool} {s : State} {r : Refusal} (hcnt : s.suCnt ≤ 8)
    (h : fetchTurn mw s s.agenda = .stop r) : stepWith mw s = .refused r := by
  rw [stepWith, fetchNext_of_le hcnt, h]

theorem fetchWord_of_undecodable {f : Format} {w : CodeWord} {rest : List Turn} {s : State} {e : DecodeError}
    (h : decode f w = .error e) : fetchWord f w rest s = .stop (.undecodable e) := by
  simp only [fetchWord, h]

theorem fetchWord_of_outsideHardware {f : Format} {w : CodeWord} {rest : List Turn} {s : State} {i : Instr}
    (h : decode f w = .ok i) (hout : outsideHardware i s = true) :
    fetchWord f w rest s = .stop .writeAllInInputMode := by
  simp only [fetchWord, h, hout, if_true]

/-- Settles O11: a handed word is fetched at once, and the fetch stops at each of the three. -/
theorem requestsOutsideTheHardwareAreRefused : Obligations.RequestsOutsideTheHardwareAreRefused := by
  unfold Obligations.RequestsOutsideTheHardwareAreRefused
  refine ⟨fun mw s r rest hcnt ha => ?_, fun mw s f w rest e hcnt ha hf hdec => ?_,
    fun mw s w rest b hcnt ha hdec hm => ?_⟩
  · exact stepWith_of_fetchTurn_stop hcnt (by rw [ha, fetchTurn])
  · apply stepWith_of_fetchTurn_stop hcnt
    rw [ha, fetchTurn_word_of_not_held (fun h => absurd h hf), fetchWord_of_undecodable hdec]
  · have hout : outsideHardware (.writeAll b) s = true := by simp [outsideHardware, hm]
    apply stepWith_of_fetchTurn_stop hcnt
    rw [ha, fetchTurn_word_of_not_held (f := .pcmd12) (by simp), fetchWord_of_outsideHardware hdec hout]

end Sys2Proof.Machine
end
